-- ==== Sys2Proof/Word.lean ====
section
/-! DEFINITION. The words of the part: bytes of the trunk and of the exchange memory, the 32-bit words
of the register window and of host memory, trunk addresses, and sets of fault kinds in their one
encoding (R195). -/

namespace Sys2Proof

/-- A byte of a trunk cell, of the exchange memory or of host memory. -/
abbrev Byte := BitVec 8

/-- A word of the register window or of host memory (R194, R137). -/
abbrev Word := BitVec 32

/-- A trunk address, 0 to 63: the width of the address field of a frame and of a record (R196). -/
abbrev Address := BitVec 6

/-- A set of fault kinds, bit k standing for the kind in row k of the encoding table (R195). -/
abbrev KindSet := BitVec 10

end Sys2Proof
end

