-- ==== Sys2Proof/Syntax.lean ====
section
/-! DEFINITION. The commands of the part: one constructor per row of spec/opcode_table.json.
A command is one whole, indivisible event: a host access, a pin, or an event of the line, of the cycle
or of the memory port (00_scope.md, Conventions, Events). -/

namespace Sys2Proof

/-- The two acyclic rings, U (URGENT) and N (NORMAL). -/
inductive Ring where
  | u
  | n
  deriving DecidableEq, Repr

/-- A byte cell as the Line Unit takes it at the end of its stop bit time (R2). -/
inductive Cell where
  | good (value : Byte)
  | bad
  deriving DecidableEq, Repr

/-- The three slot registers SLOT_STATION, SLOT_OUT and SLOT_IN (R92). -/
inductive SlotRegister where
  | station
  | outArea
  | inArea
  deriving DecidableEq, Repr

/-- The commands. `data` is the 32-bit word of a register write, `arg` the argument field of a COMMAND
write (bits 15..8, shown again in COMMAND_STATUS whether or not the command reads it, R179). -/
inductive Instr where
  | hardwareReset
  | initClearingFinished
  | cellArrival (cell : Cell)
  | gapLimitExpiry
  | lineQuiet
  | echoMismatch
  | transmissionComplete
  | markDue
  | markBegin
  | quietWaitLimit
  | slotOpportunity
  | owedSelection
  | windowExpiry
  | retryOpportunity
  /-- `word` is what the memory drives on a read transfer answered with success; it is not looked at
  otherwise. -/
  | memoryTransferAnswer (success : Bool) (word : Word)
  | start (arg : Byte)
  | stop (arg : Byte)
  | abort (arg : Byte)
  | softReset (arg : Byte)
  | swap (arg : Byte)
  | admitStation (arg : Byte)
  | bar (arg : Byte)
  | forget (arg : Byte)
  | clearSticky (arg : Byte)
  | ringEnable (arg : Byte)
  | ringResume (arg : Byte)
  | ringReset (arg : Byte)
  | queueClear (arg : Byte)
  | commandCodeUnknown (code arg : Byte)
  | post (ring : Ring) (data : Word)
  | ringStatusWrite (ring : Ring) (data : Word)
  | baseWrite (ring : Ring) (data : Word)
  | lengthWrite (ring : Ring) (data : Word)
  | queuePop (data : Word)
  | intPendingWrite (data : Word)
  | intEnableWrite (data : Word)
  | windowStatusWrite (data : Word)
  | lineConfigWrite (data : Word)
  | cyclePeriodWrite (data : Word)
  | guardWrite (data : Word)
  | missLimitWrite (data : Word)
  | rollcallConfigWrite (data : Word)
  | notifyThresholdWrite (data : Word)
  | holdMaskWrite (data : Word)
  | slotSelectWrite (data : Word)
  | slotRegisterWrite (register : SlotRegister) (data : Word)
  | stationSelectWrite (data : Word)
  | stationConfigWrite (data : Word)
  | exmemAddrWrite (data : Word)
  | exmemDataRead
  | exmemDataWrite (data : Word)
  /-- A write at byte offset `offset` with byte enables `enables`, not all asserted. -/
  | narrowWrite (offset : Byte) (enables : BitVec 4) (data : Word)
  /-- A 32-bit write at byte offset `offset`, which holds no register that a write reaches. -/
  | ignoredRegisterWrite (offset : Byte) (data : Word)
  | startBit
  | resetReleased
  deriving DecidableEq, Repr

end Sys2Proof
end

