-- ==== Sys2Proof/WellFormed.lean ====
section
/-! DEFINITION. Which terms of `Instr` are commands. Three constructors carry operands that the row's own
words bound; every operand of every other constructor is a command's. -/

namespace Sys2Proof

/-- The word position an access selects: bits 7 to 2 of its byte offset (R194). -/
def wordPosition (offset : Byte) : Nat := offset.toNat / 4

/-- The word positions that a 32-bit write reaches: the RW, WO and W1C registers, COMMAND, and the ring
STATUS registers with their POST_REFUSED field (11_register_window_and_formats.md, The map). -/
def writablePositions : List Nat :=
  [0x04, 0x0C, 0x10, 0x14, 0x18, 0x1C, 0x20, 0x24, 0x28, 0x2C, 0x3C, 0x40, 0x44, 0x48, 0x4C, 0x50, 0x54,
   0x5C, 0x6C, 0x80, 0x84, 0x88, 0x8C, 0x90, 0x94, 0x98, 0x9C, 0xA8].map (· / 4)

/-- A command code with a command: 1 to 13 (R178). -/
def knownCode (code : Byte) : Bool := 1 ≤ code.toNat && code.toNat ≤ 13

/-- Well-formedness. An unknown command code is 0 or above 13 (R178); a narrow write leaves some byte
enable unasserted (R194); an ignored write is at an offset no write reaches (R194). DESIGN CHOICE: other
terms are refused (log entry 16). -/
def Instr.wellFormed : Instr → Bool
  | .commandCodeUnknown code _ => !knownCode code
  | .narrowWrite _ enables _ => enables != 0xF#4
  | .ignoredRegisterWrite offset _ => !(writablePositions.contains (wordPosition offset))
  | .hardwareReset | .initClearingFinished | .cellArrival _ | .gapLimitExpiry | .lineQuiet | .echoMismatch
  | .transmissionComplete | .markDue | .markBegin | .quietWaitLimit | .slotOpportunity | .owedSelection
  | .windowExpiry | .retryOpportunity | .memoryTransferAnswer _ _ | .start _ | .stop _ | .abort _
  | .softReset _ | .swap _ | .admitStation _ | .bar _ | .forget _ | .clearSticky _ | .ringEnable _
  | .ringResume _ | .ringReset _ | .queueClear _ | .post _ _ | .ringStatusWrite _ _ | .baseWrite _ _
  | .lengthWrite _ _ | .queuePop _ | .intPendingWrite _ | .intEnableWrite _ | .windowStatusWrite _
  | .lineConfigWrite _ | .cyclePeriodWrite _ | .guardWrite _ | .missLimitWrite _ | .rollcallConfigWrite _
  | .notifyThresholdWrite _ | .holdMaskWrite _ | .slotSelectWrite _ | .slotRegisterWrite _ _
  | .stationSelectWrite _ | .stationConfigWrite _ | .exmemAddrWrite _ | .exmemDataRead
  | .exmemDataWrite _ | .startBit | .resetReleased => true

end Sys2Proof
end

