-- ==== Sys2Proof/Decode.lean ====
section
/-! DEFINITION. From bits to commands. The opcode table gives its rows no bits, so no table word spells a
command. A host write on the local bus does: its offset, byte enables and data select the command (R194,
R178). -/

namespace Sys2Proof

/-- No row of spec/opcode_table.json has bits: every row's list of fields is empty and none has a fixed
pattern (log entry 8). -/
def decodeTableWord (_nbits _w : Nat) : Option Instr := none

/-- The command of a 32-bit write of COMMAND, by its code field (bits 7..0) with its argument field
(bits 15..8) (R178). -/
def commandOfWord (data : Word) : Instr :=
  let code := data.extractLsb' 0 8
  let arg := data.extractLsb' 8 8
  match code.toNat with
  | 1 => .start arg
  | 2 => .stop arg
  | 3 => .abort arg
  | 4 => .softReset arg
  | 5 => .swap arg
  | 6 => .admitStation arg
  | 7 => .bar arg
  | 8 => .forget arg
  | 9 => .clearSticky arg
  | 10 => .ringEnable arg
  | 11 => .ringResume arg
  | 12 => .ringReset arg
  | 13 => .queueClear arg
  | _ => .commandCodeUnknown code arg

/-- The command of a 32-bit write at a byte offset, by the map (11_register_window_and_formats.md). -/
def wideWrite (offset : Byte) (data : Word) : Instr :=
  match 4 * wordPosition offset with
  | 0x04 => commandOfWord data
  | 0x0C => .windowStatusWrite data
  | 0x10 => .intPendingWrite data
  | 0x14 => .intEnableWrite data
  | 0x18 => .lineConfigWrite data
  | 0x1C => .cyclePeriodWrite data
  | 0x20 => .guardWrite data
  | 0x24 => .missLimitWrite data
  | 0x28 => .rollcallConfigWrite data
  | 0x2C => .notifyThresholdWrite data
  | 0x3C => .holdMaskWrite data
  | 0x40 => .exmemAddrWrite data
  | 0x44 => .exmemDataWrite data
  | 0x48 => .slotSelectWrite data
  | 0x4C => .slotRegisterWrite .station data
  | 0x50 => .slotRegisterWrite .outArea data
  | 0x54 => .slotRegisterWrite .inArea data
  | 0x5C => .stationSelectWrite data
  | 0x6C => .stationConfigWrite data
  | 0x80 => .baseWrite .u data
  | 0x84 => .lengthWrite .u data
  | 0x88 => .ringStatusWrite .u data
  | 0x8C => .post .u data
  | 0x90 => .baseWrite .n data
  | 0x94 => .lengthWrite .n data
  | 0x98 => .ringStatusWrite .n data
  | 0x9C => .post .n data
  | 0xA8 => .queuePop data
  | _ => .ignoredRegisterWrite offset data

/-- The command of one host write on the local bus: narrow unless all four byte enables are asserted,
otherwise by the word position that the offset selects (R194). -/
def hostWrite (offset : Byte) (enables : BitVec 4) (data : Word) : Instr :=
  if enables = 0xF#4 then wideWrite offset data else .narrowWrite offset enables data

end Sys2Proof
end

