-- ==== Sys2Proof/Config.lean ====
section
/-! DEFINITION. What the spec fixes as numbers, and the free values: what it leaves to the line, and an order of
two events that it leaves open. -/

namespace Sys2Proof.Config

/-- The sync byte (R15). -/
def syncByte : BitVec 8 := 0x96
/-- Bit times of rest after which the line is quiet (R3). -/
def quietRun : Nat := 24
/-- The longest gap between two cells of one frame (R17). -/
def gapLimit : Nat := 20
/-- Bit times of one byte cell (R1). -/
def cellBits : Nat := 10
/-- The greatest payload of a frame (R16). -/
def maxPayload : Nat := 120
/-- The collision streak that makes a line fault (R13). -/
def streakLimit : Nat := 4
/-- The greatest value of the cycle clock (R21). -/
def clockLimit : Nat := 2097151
/-- The earliest cycle clock at which a transmission can begin after a mark (R29). -/
def firstOpportunity : Nat := 114
/-- Entries the completion queue holds (R164). -/
def queueDepth : Nat := 32
/-- The greatest overflow count (R164). -/
def overflowLimit : Nat := 255
/-- Bytes of the exchange memory (R107). -/
def exchangeBytes : Nat := 4096

/-- FREE VALUE (log entry 3). The line held at 0 outside a cell, after a bad cell or a cut, comes to rest
when its driver lets it, and no rule says when (R3). `restBits n` is the number of bit times, among
those that pass in the n-th stretch of such time, for which the line has been back at 1 at the
stretch's end. Nothing constrains it. -/
opaque restBits : Nat → Nat

/-- FREE VALUE (log entries 25 and 30). Where both rings issue a request at one moment, either issue may be taken first
(R136). `ringUFirst n` says whether ring U's is, at the n-th such moment. Nothing constrains it. -/
opaque ringUFirst : Nat → Bool

end Sys2Proof.Config
end

