-- ==== Sys2Proof/Machine/State.lean ====
section
/-! DEFINITION. The state of the part, block by block as 00_scope.md divides it, and its value after
hardware reset. Counts and bit times are `Nat`; what the manual shows or stores as bits is a bit vector. -/

namespace Sys2Proof.Machine

/-- The engine states (10_engine_states_and_commands.md). -/
inductive Engine where
  | init
  | halted
  | starting
  | running
  | stopping
  | lineFault
  deriving DecidableEq, Repr

/-! ### The Line Unit -/

/-- The block that handed the Line Unit the frame in transmission: the Cycle Unit a mark, the Exchange
Unit the frame of a try (R4). -/
inductive TxUser where
  | mark
  | attempt
  deriving DecidableEq, Repr

/-- A transmission in progress: the frame fixed at its acceptance, sync byte first, and the bit times of
it already sent (R1, R4). -/
structure Transmission where
  user : TxUser
  frame : List Byte
  sent : Nat
  deriving DecidableEq, Repr

/-- What the line does outside a cell: it rests at 1, or it has been held at 0 since a cut or since a bad
cell (R2, R3). -/
inductive LineRest where
  | resting
  | heldAfterCut
  | heldAfterBadCell
  deriving DecidableEq, Repr

/-- The receiver states (01_the_trunk_line.md, Reception). -/
inductive RxState where
  | idle
  | inFrame
  | abandoning
  deriving DecidableEq, Repr

/-- The receiver: its state, the count of bytes taken since the sync byte, the CRC computation, the header
and first check byte taken, and the receive staging buffer (R15, R16, R18). -/
structure Receiver where
  state : RxState
  count : Nat
  crc : BitVec 16
  addressKind : Byte
  control : Byte
  length : Byte
  staging : List Byte
  checkHigh : Byte
  deriving DecidableEq, Repr

/-- The Line Unit's own state: the transmitter (`none` is IDLE), the idle run, the rest of the line, the
cell in progress as the bit times since its start bit began, the receiver and the collision streak.
`freeIndex` is the MODEL's own: which stretch of held line comes next (log entry 3). -/
structure LineUnit where
  tx : Option Transmission
  idleRun : Nat
  rest : LineRest
  cell : Option Nat
  rx : Receiver
  streak : Nat
  freeIndex : Nat
  deriving DecidableEq, Repr

/-! ### The Cycle Unit -/

/-- The phases of a cycle. -/
inductive Phase where
  | mark
  | cyclic
  | opened
  deriving DecidableEq, Repr

/-- Why a mark is wanted: the first mark after START, a mark fallen due, or a mark cut (R27). -/
inductive WantCause where
  | first
  | due
  | cut
  deriving DecidableEq, Repr

/-- A mark want and the bit times for which it has lasted (R27). -/
structure MarkWant where
  cause : WantCause
  age : Nat
  deriving DecidableEq, Repr

/-- The Cycle Unit's state (02_the_cycle.md). `oldNumber` is the cycle number kept until a mark completes or
is cut (R24); a `walk` of `none` is a finished walk. -/
structure CycleUnit where
  clock : Nat
  number : BitVec 16
  oldNumber : Option (BitVec 16)
  lateMarks : Nat
  phase : Phase
  want : Option MarkWant
  walk : Option (Fin 32)
  owed : Bool
  rollPointer : Address
  rollDone : Bool
  deriving DecidableEq, Repr

/-- The six engine configuration registers (R191). -/
structure Settings where
  bitRate : BitVec 2
  period : Nat
  guard : Nat
  missLimit : Nat
  rollEnable : Bool
  rollInterval : Nat
  rollWindow : Nat
  notifyThreshold : Nat
  deriving DecidableEq, Repr

/-! ### The Exchange Unit -/

/-- Where an exchange came from and where its result goes (R39). -/
inductive Source where
  | slot (index : Fin 32)
  | ring (ring : Ring) (index : Byte)
  | rollCall
  deriving DecidableEq, Repr

/-- Where the current try stands (03_exchanges.md, Tries). -/
inductive TryState where
  | transmitting
  | awaitingReply
  | receiving
  | ending
  deriving DecidableEq, Repr

/-- The outcomes of a try, in the order of R44. -/
inductive TryOutcome where
  | collision
  | noReply
  | framing
  | check
  | wrongSender
  | tagMismatch
  | overlength
  | refused
  | warn
  | success
  deriving DecidableEq, Repr

/-- The reply kept from an answered try; its length is the payload's (R46). -/
structure Reply where
  condition : BitVec 4
  payload : List Byte
  deriving DecidableEq, Repr

/-- The exchange in the context (R39). `expiry` is the bit times still to run before the window expiry,
below 0 while a cell in progress holds an expiry whose moment has passed (R42, R21); `tag` is held as 0 for
a roll call, which carries none. -/
structure Exchange where
  source : Source
  station : Address
  tag : BitVec 3
  function : BitVec 4
  stale : Bool
  outData : List Byte
  inCapacity : Nat
  retryLimit : Nat
  tries : Nat
  window : Nat
  expiry : Option Int
  causes : KindSet
  unaccounted : KindSet
  answered : Bool
  reissued : Bool
  orphaned : Bool
  last : Option TryOutcome
  reply : Option Reply
  state : TryState
  deriving DecidableEq, Repr

/-! ### The Station Table -/

/-- The station states (04_the_station_table.md). -/
inductive StationState where
  | absent
  | joining
  | active
  | suspect
  | lost
  | barred
  deriving DecidableEq, Repr

/-- What a station reports of itself (R67). -/
structure Identity where
  type : BitVec 16
  revision : BitVec 16
  serial : Word
  maxPayload : Nat
  deriving DecidableEq, Repr

/-- A station record (R65). -/
structure Station where
  state : StationState
  identity : Option Identity
  nextTag : BitVec 3
  missCount : Nat
  window : Nat
  alertMask : KindSet
  sticky : KindSet
  search : Bool
  deriving DecidableEq, Repr

/-! ### The Schedule Store -/

/-- When a slot posts a SLOT entry (R106). -/
inductive ReportMode where
  | never
  | onFault
  | always
  deriving DecidableEq, Repr

/-- A slot of a schedule page, each field within its stored range (R89). -/
structure Slot where
  enable : Bool
  station : Address
  function : BitVec 4
  outOffset : BitVec 12
  outLength : Byte
  inOffset : BitVec 12
  inCapacity : Byte
  rate : BitVec 5
  phase : BitVec 4
  report : ReportMode
  deriving DecidableEq, Repr

/-- The results of R56, in the order of their codes. -/
inductive Result where
  | ok
  | okHeld
  | sent
  | noReply
  | badReply
  | tagMismatch
  | overlength
  | refused
  | collision
  | aborted
  | lineFault
  | notActive
  | stationLost
  | tooLong
  | doesNotFit
  | skippedCutoff
  | memoryFault
  | badRecord
  deriving DecidableEq, Repr

/-- An entry of the slot status table that is not empty (R105). -/
structure SlotStatus where
  result : Result
  cycle : BitVec 16
  deriving DecidableEq, Repr

/-- The two schedule pages (R90). -/
inductive PageNumber where
  | zero
  | one
  deriving DecidableEq, Repr

/-- The read view of SLOT_SELECT (R92). -/
inductive View where
  | edit
  | active
  deriving DecidableEq, Repr

/-- The Schedule Store's state, with SLOT_SELECT (05_schedule_pages_and_the_exchange_memory.md). -/
structure Schedule where
  page0 : Vector Slot 32
  page1 : Vector Slot 32
  active : PageNumber
  swapPending : Bool
  hold : BitVec 32
  status : Vector (Option SlotStatus) 32
  select : Fin 32
  view : View
  deriving DecidableEq, Repr

/-! ### The Ring Unit -/

/-- The ring states (R111). -/
inductive RingState where
  | off
  | active
  | halted
  deriving DecidableEq, Repr

/-- The halt reasons of a ring (R130). -/
inductive HaltReason where
  | none
  | ownership
  | fetchFault
  | writebackFault
  deriving DecidableEq, Repr

/-- The record stages (R113). -/
inductive Stage where
  | none
  | fetching
  | loading
  | staged
  | inExchange
  | writingBack
  deriving DecidableEq, Repr

/-- What a completed record carries to its write-back (R125). A `reply` of `none` is an absent reply. -/
structure Completion where
  result : Result
  cycle : BitVec 16
  reply : Option Reply
  deriving DecidableEq, Repr

/-- A taken record: its index, the fields copied at the take, its out data, its progress, and from its
completion what its write-back carries (R114, R119, R125). -/
structure RingRecord where
  index : Byte
  station : Address
  function : BitVec 4
  retryLimit : BitVec 3
  notify : Bool
  outLength : Byte
  outAddress : Word
  inAddress : Word
  inCapacity : Word
  outData : List Byte
  tries : Nat
  tag : BitVec 3
  causes : KindSet
  reissued : Bool
  completion : Option Completion
  deriving DecidableEq, Repr

/-- One ring's state (06_acyclic_rings.md). -/
structure RingUnit where
  state : RingState
  reason : HaltReason
  base : Word
  length : Nat
  head : Nat
  pending : Nat
  stage : Stage
  current : Option RingRecord
  postRefused : Bool
  deriving DecidableEq, Repr

/-! ### The Memory Master -/

/-- The request kinds (R137). -/
inductive RequestKind where
  | recordRead
  | dataRead
  | dataWrite
  | statusWrite
  deriving DecidableEq, Repr

/-- A request of the queue (R136). `answered` is the word transfers answered with success so far, and
`words` the words those transfers read, in the order read. `sole` marks the request that a SOFT_RESET left
begun: the queue holds it alone until it completes (R136, R145). -/
structure Request where
  kind : RequestKind
  ring : Ring
  index : Byte
  address : Word
  count : Nat
  data : List Byte
  begun : Bool
  discarded : Bool
  sole : Bool
  answered : Nat
  words : List Word
  deriving DecidableEq, Repr

/-! ### The Completion Queue and the Host Window -/

/-- The kinds of a posted entry; kind NONE is what an empty head shows and is never posted (R162). -/
inductive EntryKind where
  | slot
  | record
  | alert
  | station
  | ringHalt
  | swapDone
  | lineFault
  deriving DecidableEq, Repr

/-- A completion entry (R162). -/
structure Entry where
  kind : EntryKind
  code : BitVec 5
  reissued : Bool
  duplicate : Bool
  late : Bool
  ring : Ring
  station : Address
  index : Byte
  cycle : BitVec 16
  causes : KindSet
  deriving DecidableEq, Repr

/-- The Completion Queue: its entries, oldest first, and the overflow count (R164). -/
structure CompletionQueue where
  entries : List Entry
  overflow : Nat
  deriving DecidableEq, Repr

/-- The decisions of a command (R179). -/
inductive Decision where
  | none
  | done
  | accepted
  | refusedState
  | refusedArgument
  | refusedInvalid
  deriving DecidableEq, Repr

/-- COMMAND_STATUS (R179). -/
structure CommandStatus where
  code : Byte
  arg : Byte
  decision : Decision
  detail : BitVec 4
  index : Byte
  deriving DecidableEq, Repr

/-- The Host Window: the interrupt flags and enables (R172, R174), WINDOW_STATUS (R193) and COMMAND_STATUS
(R179). `readData` is the word that the last EXMEM_DATA read put on the host's data bus (R108). -/
structure HostWindow where
  intPending : BitVec 7
  intEnable : BitVec 7
  windowStatus : BitVec 3
  commandStatus : CommandStatus
  readData : Word
  deriving DecidableEq, Repr

/-! ### The whole part -/

/-- The exchange memory: the bytes that are not 0, at strictly rising offsets (R107). -/
abbrev Memory := List Host.Cell

/-- The state of the part. `resetAsserted` is the level of the RESET input; `lateWatch` is the station of a
late watch and `lateFrame` the station whose late frame is being received (R48). Two fields are the MODEL's own:
`orderIndex`, which of the moments at which both rings issue comes next (log entries 25 and 30), and `pending`, the
queue of commands, first in, first out. -/
structure State where
  engine : Engine
  resetAsserted : Bool
  line : LineUnit
  cycle : CycleUnit
  settings : Settings
  context : Option Exchange
  lateWatch : Option Address
  lateFrame : Option Address
  stations : Vector Station 62
  stationSelect : Address
  schedule : Schedule
  exmem : Memory
  exmemAddr : BitVec 12
  ringU : RingUnit
  ringN : RingUnit
  requests : List Request
  orderIndex : Nat
  queue : CompletionQueue
  host : HostWindow
  pending : List Instr
  deriving DecidableEq, Repr

/-- A fault stops the part. The manual describes no event that does, so there is none: bad input is
answered by flags, refusals and results, each of them a next state. -/
inductive Fault where
  deriving DecidableEq, Repr

/-- Why a command has no meaning. -/
inductive Refusal where
  /-- Raised by an arm of `exec` whose command has no meaning yet. Safe: the model stops where the part
  goes on. -/
  | notModelled (mnemonic : String)
  /-- Raised by the three meanings whose command bounds its operands, on a term outside the bounds
  (`Instr.wellFormed` is false). Safe: such a term is no command of the part. -/
  | illFormed (mnemonic : String)
  deriving DecidableEq, Repr

/-- What a command answers. -/
abbrev Answer := Host.Outcome State Fault Refusal

/-! ### Hardware-reset values -/

/-- The receiver after either reset: IDLE, its buffer without payload (R14). DESIGN CHOICE: the count of bytes
received, the CRC computation, the header bytes and the first check byte, whose reset value no rule gives and
which none reads before the next sync byte replaces them (R15), are held as 0 (log entry 2). -/
def Receiver.reset : Receiver :=
  { state := .idle, count := 0, crc := 0, addressKind := 0, control := 0, length := 0, staging := [],
    checkHigh := 0 }

/-- The Line Unit after hardware reset (R3, R9, R13, R14). DESIGN CHOICE: the line rests at 1 with no cell in
progress, where R3 and R176 say only what follows if it rests at 1 (log entry 14). -/
def LineUnit.reset : LineUnit :=
  { tx := none, idleRun := 0, rest := .resting, cell := none, rx := .reset, streak := 0, freeIndex := 0 }

/-- The Cycle Unit after either reset (02_the_cycle.md, table of state; R189). -/
def CycleUnit.reset : CycleUnit :=
  { clock := 0, number := 65535, oldNumber := none, lateMarks := 0, phase := .mark, want := none,
    walk := some 0, owed := false, rollPointer := 1, rollDone := false }

/-- The configuration registers after hardware reset (R191). -/
def Settings.reset : Settings :=
  { bitRate := 0, period := 10000, guard := 32, missLimit := 3, rollEnable := false, rollInterval := 1,
    rollWindow := 128, notifyThreshold := 1 }

/-- A station record after either reset (R65, R66); the alert mask is all kinds but WARN (R195). -/
def Station.reset : Station :=
  { state := .absent, identity := none, nextTag := 0, missCount := 0, window := 64, alertMask := 0x2FF,
    sticky := 0, search := true }

/-- A cleared slot (R89). -/
def Slot.reset : Slot :=
  { enable := false, station := 0, function := 0, outOffset := 0, outLength := 0, inOffset := 0,
    inCapacity := 0, rate := 0, phase := 0, report := .never }

/-- The Schedule Store after hardware reset. -/
def Schedule.reset : Schedule :=
  { page0 := Vector.replicate 32 .reset, page1 := Vector.replicate 32 .reset, active := .zero,
    swapPending := false, hold := 0, status := Vector.replicate 32 none, select := 0, view := .edit }

/-- A ring after hardware reset (06_acyclic_rings.md, table of state; R135). -/
def RingUnit.reset : RingUnit :=
  { state := .off, reason := .none, base := 0, length := 4, head := 0, pending := 0, stage := .none,
    current := none, postRefused := false }

/-- The Host Window after hardware reset (R175, R179, R193). -/
def HostWindow.reset : HostWindow :=
  { intPending := 0, intEnable := 0, windowStatus := 0,
    commandStatus := { code := 0, arg := 0, decision := .none, detail := 0, index := 0 }, readData := 0 }

/-- The part while RESET is asserted: every piece of state at its hardware-reset value, the engine in INIT
(R176). -/
def State.reset : State :=
  { engine := .init, resetAsserted := true, line := .reset, cycle := .reset, settings := .reset,
    context := none, lateWatch := none, lateFrame := none, stations := Vector.replicate 62 .reset,
    stationSelect := 1, schedule := .reset, exmem := [], exmemAddr := 0, ringU := .reset, ringN := .reset,
    requests := [], orderIndex := 0, queue := { entries := [], overflow := 0 }, host := .reset, pending := [] }

end Sys2Proof.Machine
end

