-- ==== Sys2Proof/Machine/Operands.lean ====
section
/-! DEFINITION. The layouts: trunk frames and their CRC (R5, R196), ring records (R197), completion entries
(R198), the codes of the enumerations (11_register_window_and_formats.md), and the range rule of
configuration fields (R192). -/

namespace Sys2Proof.Machine

/-! ### Fields of words -/

/-- The unsigned number in bits `lo + len - 1` to `lo` of a word. -/
def fieldOf (w : Word) (lo len : Nat) : Nat := (w.extractLsb' lo len).toNat

/-- A word holding the number `v` from bit `lo` upward. -/
def fieldAt (lo v : Nat) : Word := BitVec.ofNat 32 v <<< lo

/-- A word holding a flag at bit `lo`. -/
def flagAt (lo : Nat) (b : Bool) : Word := fieldAt lo b.toNat

/-- The bytes of a word, least significant first: host memory and EXMEM_DATA are little-endian
(00_scope.md, Conventions; R108). -/
def wordBytes (w : Word) : List Byte :=
  [w.extractLsb' 0 8, w.extractLsb' 8 8, w.extractLsb' 16 8, w.extractLsb' 24 8]

/-- The word of four bytes, least significant first. -/
def wordOfBytes (b0 b1 b2 b3 : Byte) : Word := b3 ++ b2 ++ b1 ++ b0

/-- A field brought into its range: the nearest value of the range, and whether that changed it (R192). -/
def clampField (least greatest v : Nat) : Nat × Bool :=
  let stored := max least (min v greatest)
  (stored, stored != v)

/-! ### The CRC and the frame (R5, R196) -/

/-- One bit of the CRC computation: generator x^16 + x^12 + x^5 + 1, most significant bit first (R5). -/
def crcShift (crc : BitVec 16) : BitVec 16 :=
  if crc.msb then (crc <<< 1) ^^^ 0x1021#16 else crc <<< 1

/-- One byte of the CRC computation (R5). -/
def crcByte (crc : BitVec 16) (b : Byte) : BitVec 16 :=
  Nat.repeat crcShift 8 (crc ^^^ (b ++ 0#8))

/-- The value the CRC register starts at (R5). -/
def crcStart : BitVec 16 := 0xFFFF

/-- The CRC of a run of bytes. -/
def crcOf (bytes : List Byte) : BitVec 16 := bytes.foldl crcByte crcStart

/-- The frame kinds (01_the_trunk_line.md, Frames). -/
inductive FrameKind where
  | mark
  | request
  | reply
  | roll
  deriving DecidableEq, Repr

/-- The kind field of byte 1 (R196). -/
def FrameKind.code : FrameKind → BitVec 2
  | .mark => 0
  | .request => 1
  | .reply => 2
  | .roll => 3

/-- The kind that a kind field names (R196). -/
def FrameKind.ofCode (c : BitVec 2) : FrameKind :=
  match c.toNat with
  | 0 => .mark
  | 1 => .request
  | 2 => .reply
  | _ => .roll

/-- Byte 1 of a frame: the kind in bits 7..6, the address in bits 5..0 (R196). -/
def addressKindByte (kind : FrameKind) (address : Address) : Byte := kind.code ++ address

/-- Byte 2 of a frame: function in bits 7..4, STALE in bit 3, tag in bits 2..0 (R196). -/
def controlByte (tag : BitVec 3) (stale : Bool) (function : BitVec 4) : Byte :=
  function ++ BitVec.ofBool stale ++ tag

/-- A whole frame: sync, header, payload, check bytes with the high byte first (R4, R5). -/
def frameBytes (kind : FrameKind) (address : Address) (control : Byte) (payload : List Byte) : List Byte :=
  let body := [addressKindByte kind address, control, BitVec.ofNat 8 payload.length] ++ payload
  let crc := crcOf body
  Config.syncByte :: body ++ [crc.extractLsb' 8 8, crc.extractLsb' 0 8]

/-- The MARK frame of a cycle number and an active page (R6). DEDUCED: byte 1 is 0x3F by the layout of R196
(log entry 23). -/
def markFrame (number : BitVec 16) (page : PageNumber) : List Byte :=
  frameBytes .mark 63 0
    [number.extractLsb' 0 8, number.extractLsb' 8 8, if page = .one then 1 else 0]

/-- The REQUEST frame of a request or a broadcast; a STALE request carries no payload (R7). -/
def requestFrame (address : Address) (tag : BitVec 3) (stale : Bool) (function : BitVec 4)
    (payload : List Byte) : List Byte :=
  frameBytes .request address (controlByte tag stale function) (if stale then [] else payload)

/-- The ROLL frame of a roll call (R8). -/
def rollFrame (address : Address) : List Byte := frameBytes .roll address 0 []

/-- What the frame end report carries (R18); the verdict is `good`. -/
structure FrameReport where
  kind : FrameKind
  address : Address
  tag : BitVec 3
  bit3 : Bool
  upper : BitVec 4
  payload : List Byte
  good : Bool
  deriving DecidableEq, Repr

/-- The report of a frame whose header and payload the receiver has taken (R18, R196). -/
def Receiver.report (rx : Receiver) (good : Bool) : FrameReport :=
  { kind := .ofCode (rx.addressKind.extractLsb' 6 2)
    address := rx.addressKind.extractLsb' 0 6
    tag := rx.control.extractLsb' 0 3
    bit3 := rx.control.getLsbD 3
    upper := rx.control.extractLsb' 4 4
    payload := rx.staging
    good := good }

/-- The identity in the 9-byte payload of an identity reply: type, revision and serial least significant
byte first, then the max payload, held to 120 (R67). -/
def identityOf (p : List Byte) : Identity :=
  { type := p.getD 1 0 ++ p.getD 0 0
    revision := p.getD 3 0 ++ p.getD 2 0
    serial := wordOfBytes (p.getD 4 0) (p.getD 5 0) (p.getD 6 0) (p.getD 7 0)
    maxPayload := min (p.getD 8 0).toNat Config.maxPayload }

/-! ### Codes -/

/-- The engine state codes. -/
def Engine.code : Engine → Nat
  | .init => 0
  | .halted => 1
  | .starting => 2
  | .running => 3
  | .stopping => 4
  | .lineFault => 5

/-- The phase codes of ENGINE_STATUS. -/
def Phase.code : Phase → Nat
  | .mark => 0
  | .cyclic => 1
  | .opened => 2

/-- The station state codes. -/
def StationState.code : StationState → Nat
  | .absent => 0
  | .joining => 1
  | .active => 2
  | .suspect => 3
  | .lost => 4
  | .barred => 5

/-- The ring state codes. -/
def RingState.code : RingState → Nat
  | .off => 0
  | .active => 1
  | .halted => 2

/-- The halt reason codes. -/
def HaltReason.code : HaltReason → Nat
  | .none => 0
  | .ownership => 1
  | .fetchFault => 2
  | .writebackFault => 3

/-- The ring codes: U 0, N 1. -/
def ringCode : Ring → Nat
  | .u => 0
  | .n => 1

/-- The page numbers. -/
def PageNumber.code : PageNumber → Nat
  | .zero => 0
  | .one => 1

/-- The other page. -/
def PageNumber.other : PageNumber → PageNumber
  | .zero => .one
  | .one => .zero

/-- The report mode codes (SLOT_STATION). -/
def ReportMode.code : ReportMode → Nat
  | .never => 0
  | .onFault => 1
  | .always => 2

/-- The report mode of a written field: the fourth code stores ALWAYS (R89). -/
def ReportMode.ofCode (v : Nat) : ReportMode :=
  match v with
  | 0 => .never
  | 1 => .onFault
  | _ => .always

/-- The 5-bit result codes (R56). -/
def Result.code : Result → BitVec 5
  | .ok => 0
  | .okHeld => 1
  | .sent => 2
  | .noReply => 3
  | .badReply => 4
  | .tagMismatch => 5
  | .overlength => 6
  | .refused => 7
  | .collision => 8
  | .aborted => 9
  | .lineFault => 10
  | .notActive => 11
  | .stationLost => 12
  | .tooLong => 13
  | .doesNotFit => 14
  | .skippedCutoff => 15
  | .memoryFault => 16
  | .badRecord => 17

/-- The entry kind codes (R162). -/
def EntryKind.code : EntryKind → Nat
  | .slot => 1
  | .record => 2
  | .alert => 3
  | .station => 4
  | .ringHalt => 5
  | .swapDone => 6
  | .lineFault => 7

/-- The decision codes (R179). -/
def Decision.code : Decision → Nat
  | .none => 0
  | .done => 1
  | .accepted => 2
  | .refusedState => 3
  | .refusedArgument => 4
  | .refusedInvalid => 5

/-- The ring that a ring command's argument names: 0 for U, 1 for N, any other none
(06_acyclic_rings.md, Ring commands). -/
def ringOfArg (arg : Byte) : Option Ring :=
  match arg.toNat with
  | 0 => some .u
  | 1 => some .n
  | _ => none

/-! ### The ring record (R197) -/

/-- The record's owner field is bit 0 of word 4: CONTROLLER when set (R197). -/
def ownedByController (word4 : Word) : Bool := word4.getLsbD 0

/-- The record taken from words 0 to 3, at an index, with nothing used yet (R119, R197). Its
tag, which no try has taken, is held as 0 (DESIGN CHOICE, log entry 31). -/
def recordOfWords (index : Byte) (w0 w1 w2 w3 : Word) : RingRecord :=
  { index := index
    station := w0.extractLsb' 0 6
    function := w0.extractLsb' 8 4
    retryLimit := w0.extractLsb' 12 3
    notify := w0.getLsbD 15
    outLength := w0.extractLsb' 16 8
    outAddress := w1
    inAddress := w2
    inCapacity := w3
    outData := []
    tries := 0
    tag := 0
    causes := 0
    reissued := false
    completion := none }

/-- The tries field of word 4: the tries used, or, with REISSUED set, the tries used plus 3 (the table of
11_register_window_and_formats.md). -/
def triesField (tries : Nat) (reissued : Bool) : Nat := if reissued then tries + 3 else tries

/-- Word 4 of a returned record: OWNER 0 (HOST) in bit 0, then result, reply length, tries field and
completion cycle (R197). -/
def statusWord4 (result : Result) (replyLength tries : Nat) (reissued : Bool) (cycle : BitVec 16) : Word :=
  fieldAt 1 result.code.toNat ||| fieldAt 6 replyLength ||| fieldAt 13 (triesField tries reissued)
    ||| fieldAt 16 cycle.toNat

/-- Word 5 of a returned record: the cause set and the condition (R197). -/
def statusWord5 (causes : KindSet) (condition : BitVec 4) : Word :=
  fieldAt 0 causes.toNat ||| fieldAt 16 condition.toNat

/-! ### The completion entry (R198) -/

/-- QUEUE_HEAD0 of an entry. -/
def Entry.head0 (e : Entry) : Word :=
  fieldAt 0 e.kind.code ||| fieldAt 3 e.code.toNat ||| flagAt 8 e.reissued ||| flagAt 9 e.duplicate
    ||| flagAt 10 e.late ||| fieldAt 11 (ringCode e.ring) ||| fieldAt 12 e.station.toNat
    ||| fieldAt 18 e.index.toNat

/-- QUEUE_HEAD1 of an entry. -/
def Entry.head1 (e : Entry) : Word := fieldAt 0 e.cycle.toNat ||| fieldAt 16 e.causes.toNat

end Sys2Proof.Machine
end

