-- ==== Sys2Proof/Machine/Flags.lean ====
section
/-! DEFINITION. Flags: fault kinds as sets (R195), interrupt flags and INT (R172, R174), and the misuse
flags of WINDOW_STATUS (R193). -/

namespace Sys2Proof.Machine

/-- The ten fault kinds, in the order of their bits (R195). -/
inductive FaultKind where
  | noReply
  | lateReply
  | check
  | framing
  | wrongSender
  | tagMismatch
  | overlength
  | refused
  | warn
  | collision
  deriving DecidableEq, Repr

/-- The bit of a fault kind in every set of fault kinds (R195). -/
def FaultKind.bit : FaultKind → Nat
  | .noReply => 0
  | .lateReply => 1
  | .check => 2
  | .framing => 3
  | .wrongSender => 4
  | .tagMismatch => 5
  | .overlength => 6
  | .refused => 7
  | .warn => 8
  | .collision => 9

/-- The set of one fault kind (R195). -/
def FaultKind.set (k : FaultKind) : KindSet := 1#10 <<< k.bit

/-- The fault kind of a try's outcome, as a set: a success of condition 0 has none (R44, R147). -/
def TryOutcome.kinds : TryOutcome → KindSet
  | .collision => FaultKind.collision.set
  | .noReply => FaultKind.noReply.set
  | .framing => FaultKind.framing.set
  | .check => FaultKind.check.set
  | .wrongSender => FaultKind.wrongSender.set
  | .tagMismatch => FaultKind.tagMismatch.set
  | .overlength => FaultKind.overlength.set
  | .refused => FaultKind.refused.set
  | .warn => FaultKind.warn.set
  | .success => 0

/-- Rows 6 to 10 of R44 are answered tries. -/
def TryOutcome.isAnswered : TryOutcome → Bool
  | .tagMismatch | .overlength | .refused | .warn | .success => true
  | .collision | .noReply | .framing | .check | .wrongSender => false

/-- Rows 1 to 6 of R44 are retryable. -/
def TryOutcome.isRetryable : TryOutcome → Bool
  | .collision | .noReply | .framing | .check | .wrongSender | .tagMismatch => true
  | .overlength | .refused | .warn | .success => false

/-- The result of an exchange by the outcome of its final try (R56); a slot turns OK into OK_HELD itself
(R103). -/
def TryOutcome.result : TryOutcome → Result
  | .success | .warn => .ok
  | .noReply => .noReply
  | .framing | .check | .wrongSender => .badReply
  | .tagMismatch => .tagMismatch
  | .overlength => .overlength
  | .refused => .refused
  | .collision => .collision

/-- The seven interrupt flags, in the order of their bits (R172). -/
inductive IntFlag where
  | notify
  | mark
  | alert
  | ring
  | line
  | halted
  | overflow
  deriving DecidableEq, Repr

/-- The bit of an interrupt flag in INT_PENDING and INT_ENABLE. -/
def IntFlag.bit : IntFlag → Nat
  | .notify => 0
  | .mark => 1
  | .alert => 2
  | .ring => 3
  | .line => 4
  | .halted => 5
  | .overflow => 6

/-- The word of INT_PENDING with one flag set. -/
def IntFlag.mask (f : IntFlag) : BitVec 7 := 1#7 <<< f.bit

/-- Setting an interrupt flag (R172). -/
def State.raise (s : State) (f : IntFlag) : State :=
  { s with host := { s.host with intPending := s.host.intPending ||| f.mask } }

/-- Whether an interrupt flag is set. -/
def State.flag (s : State) (f : IntFlag) : Bool := s.host.intPending.getLsbD f.bit

/-- The INT output: asserted exactly when some flag is set and enabled (R174). -/
def State.intAsserted (s : State) : Bool := s.host.intPending &&& s.host.intEnable != 0

/-- The misuse flags of WINDOW_STATUS, in the order of their bits (R193). -/
inductive Misuse where
  | writeRefused
  | writeClamped
  | narrowWrite
  deriving DecidableEq, Repr

/-- The bit of a misuse flag in WINDOW_STATUS. -/
def Misuse.bit : Misuse → Nat
  | .writeRefused => 0
  | .writeClamped => 1
  | .narrowWrite => 2

/-- Setting a misuse flag (R193). -/
def State.misuse (s : State) (m : Misuse) : State :=
  { s with host := { s.host with windowStatus := s.host.windowStatus ||| (1#3 <<< m.bit) } }

/-- Setting WRITE_CLAMPED when a write stored some field with a changed value (R192). -/
def State.clampedIf (s : State) (changed : Bool) : State :=
  if changed then s.misuse .writeClamped else s

end Sys2Proof.Machine
end

