-- ==== Sys2Proof/Machine/Ops.lean ====
section
/-! DEFINITION. The named operations over the state that many commands share: the exchange memory, the
station records, the completion queue, supervision, accounting, slots and the swap, budgets, validation,
and the entry to HALTED. -/

namespace Sys2Proof.Machine

/-! ### The exchange memory (R107 to R110) -/

/-- The byte at an offset; an offset not listed holds 0, its hardware-reset value (R107). -/
def Memory.byteAt : Memory → Nat → Byte
  | [], _ => 0
  | (b, v) :: rest, a => if a = b then v else Memory.byteAt rest a

/-- Writing the byte at an offset. The list stays in its one form: offsets strictly rising, no byte 0. -/
def Memory.setByte : Memory → Nat → Byte → Memory
  | [], a, v => if v = 0 then [] else [(a, v)]
  | (b, w) :: rest, a, v =>
    if a < b then (if v = 0 then (b, w) :: rest else (a, v) :: (b, w) :: rest)
    else if a = b then (if v = 0 then rest else (a, v) :: rest)
    else (b, w) :: Memory.setByte rest a v

/-- The one form, from a least offset on: offsets strictly rising and below 4096, no byte 0. -/
def Memory.wfFrom : Nat → Memory → Bool
  | _, [] => true
  | least, (a, v) :: rest =>
    decide (least ≤ a) && decide (a < Config.exchangeBytes) && v != 0 && Memory.wfFrom (a + 1) rest

/-- The one form of the exchange memory's list. -/
def Memory.wf (m : Memory) : Bool := Memory.wfFrom 0 m

/-- The bytes of an area, in one access (R109). Offsets past the end wrap; validation keeps every area that
runs within the memory (R94; log entry 17). -/
def Memory.bytesAt (m : Memory) (offset length : Nat) : List Byte :=
  (List.range length).map fun i => m.byteAt ((offset + i) % Config.exchangeBytes)

/-- Writing a run of bytes from an offset onward, in one access (R104, R109). -/
def Memory.setBytes : Memory → Nat → List Byte → Memory
  | m, _, [] => m
  | m, a, b :: rest => Memory.setBytes (m.setByte (a % Config.exchangeBytes) b) (a + 1) rest

/-- The word at an offset: the byte there is the least significant (R108). -/
def Memory.wordAt (m : Memory) (offset : Nat) : Word :=
  wordOfBytes (m.byteAt (offset % Config.exchangeBytes)) (m.byteAt ((offset + 1) % Config.exchangeBytes))
    (m.byteAt ((offset + 2) % Config.exchangeBytes)) (m.byteAt ((offset + 3) % Config.exchangeBytes))

/-! ### Station records (R65) -/

/-- The place of a station's record: addresses 1 to 62 have one (R65). -/
def recordIndex? (a : Address) : Option (Fin 62) :=
  if h : 1 ≤ a.toNat ∧ a.toNat ≤ 62 then some ⟨a.toNat - 1, by omega⟩ else none

/-- The address of a record's place. -/
def addressAt (i : Fin 62) : Address := BitVec.ofNat 6 (i.val + 1)

/-- The record of an address. DESIGN CHOICE: addresses 0 and 63 have none and read as a reset record; no
exchange with a station names them (R65, R94, R120; log entry 18). -/
def State.station (s : State) (a : Address) : Station :=
  match recordIndex? a with
  | some i => s.stations[i]
  | none => Station.reset

/-- Replacing the record of an address. -/
def State.setStation (s : State) (a : Address) (r : Station) : State :=
  match recordIndex? a with
  | some i => { s with stations := s.stations.set i r }
  | none => s

/-- In service: an exchange reaches a station only in ACTIVE or SUSPECT (04_the_station_table.md). -/
def StationState.inService : StationState → Bool
  | .active | .suspect => true
  | .absent | .joining | .lost | .barred => false

/-- The result of work for a station out of service (R31, R35, R122). -/
def StationState.outResult : StationState → Result
  | .lost => .stationLost
  | .absent | .joining | .active | .suspect | .barred => .notActive

/-- The max payload in a station's identity; 0 where the identity is absent (R88). -/
def Station.maxPayload (r : Station) : Nat := (r.identity.map (·.maxPayload)).getD 0

/-! ### The completion queue (R165, R168, R171) -/

/-- An entry with no flag, ring U, station 0, index 0 and an empty cause set: fields that have no meaning
for a kind hold 0 (R162). -/
def Entry.blank (kind : EntryKind) (code : BitVec 5) (cycle : BitVec 16) : Entry :=
  { kind := kind, code := code, reissued := false, duplicate := false, late := false, ring := .u,
    station := 0, index := 0, cycle := cycle, causes := 0 }

/-- The queue holds 32 entries (R164). -/
def State.queueFull (s : State) : Bool := decide (Config.queueDepth ≤ s.queue.entries.length)

/-- A post: placed, with the NOTIFY test on the count after it, or refused by a full queue, with the
overflow count raised and OVERFLOW set (R165, R168, R171). -/
def State.post (s : State) (e : Entry) : State :=
  if s.queueFull then
    State.raise { s with queue := { s.queue with overflow := min Config.overflowLimit (s.queue.overflow + 1) } }
      .overflow
  else
    let placed := { s with queue := { s.queue with entries := s.queue.entries ++ [e] } }
    if s.settings.notifyThreshold ≤ s.queue.entries.length + 1 then placed.raise .notify else placed

/-- A STATION entry (R163, R68, R74, R77). -/
def State.postStation (s : State) (a : Address) (code : BitVec 5) (duplicate : Bool) : State :=
  s.post { Entry.blank .station code s.cycle.number with station := a, duplicate := duplicate }

/-! ### Supervision (R75 to R77) -/

/-- A station enters LOST: miss count 0 and a STATION entry with detail LOST (R77). -/
def State.enterLost (s : State) (a : Address) : State :=
  (s.setStation a { s.station a with state := .lost, missCount := 0 }).postStation a 3 false

/-- A supervision update, made only for a station in service (R57, R75, R76). DEDUCED: the miss limit is
reached at or above it (log entry 21). -/
def State.supervise (s : State) (a : Address) (answered : Bool) : State :=
  let r := s.station a
  if !r.state.inService then s
  else if answered then s.setStation a { r with state := .active, missCount := 0 }
  else if s.settings.missLimit ≤ r.missCount + 1 then s.enterLost a
  else s.setStation a { r with state := .suspect, missCount := r.missCount + 1 }

/-! ### Fault Accounting (R151 to R154) -/

/-- Adding a set of kinds to a station's sticky set (R151). -/
def State.addSticky (s : State) (a : Address) (k : KindSet) : State :=
  s.setStation a { s.station a with sticky := (s.station a).sticky ||| k }

/-- Posting the alert part: the ALERT flag when the queue takes the entry, otherwise the kinds join the
sticky set (R151, R153, R154). -/
def State.alert (s : State) (e : Entry) : State :=
  if s.queueFull then (s.post e).addSticky e.station e.causes else (s.post e).raise .alert

/-- An accounting of the kinds `k` for station `a`; `e` names the source in its code, index, ring and
LATE flag (R149, R151, R152). -/
def State.account (s : State) (a : Address) (k : KindSet) (e : Entry) : State :=
  if k = 0 then s
  else
    let mask := (s.station a).alertMask
    let alertPart := k &&& mask
    let stickyPart := k &&& ~~~mask
    let afterAlert :=
      if alertPart = 0 then s
      else s.alert { e with station := a, cycle := s.cycle.number, causes := alertPart }
    afterAlert.addSticky a stickyPart

/-! ### Slots, pages and the swap (R89 to R106) -/

/-- The physical page of a number. -/
def Schedule.page (x : Schedule) : PageNumber → Vector Slot 32
  | .zero => x.page0
  | .one => x.page1

/-- The active page (R90). -/
def Schedule.activePage (x : Schedule) : Vector Slot 32 := x.page x.active

/-- The edit page: always the page that is not active (R90). -/
def Schedule.editPage (x : Schedule) : Vector Slot 32 := x.page x.active.other

/-- Replacing a slot of the edit page (R93). -/
def Schedule.setEditSlot (x : Schedule) (i : Fin 32) (slot : Slot) : Schedule :=
  match x.active with
  | .zero => { x with page1 := x.page1.set i slot }
  | .one => { x with page0 := x.page0.set i slot }

/-- The hold flag of a slot index (R101). -/
def Schedule.held (x : Schedule) (i : Fin 32) : Bool := x.hold.getLsbD i.val

/-- An enabled slot is due in the cycles whose number n satisfies n mod rate = phase (R31, R91). -/
def Slot.dueIn (x : Slot) (number : Nat) : Bool :=
  x.enable && x.rate != 0 && number % x.rate.toNat == x.phase.toNat

/-- The first slot of the active page, from an index on, that is enabled and due in the current cycle:
the others are passed over (R31). -/
def State.dueSlotFrom (s : State) (start : Nat) : Option (Fin 32) :=
  (List.finRange 32).find? fun i =>
    decide (start ≤ i.val) && (s.schedule.activePage[i]).dueIn s.cycle.number.toNat

/-- Whether a report mode posts a result (R106). -/
def ReportMode.posts (m : ReportMode) (result : Result) : Bool :=
  match m with
  | .never => false
  | .onFault => result != .ok && result != .okHeld
  | .always => true

/-- A slot takes a result: the reply's payload into the in-area if the result is OK, the slot status entry,
and a SLOT entry by the report mode (R104, R105, R106). -/
def State.slotResult (s : State) (i : Fin 32) (result : Result) (causes : KindSet) (payload : List Byte) :
    State :=
  let slot := s.schedule.activePage[i]
  let stored :=
    if result = .ok then { s with exmem := s.exmem.setBytes slot.inOffset.toNat payload } else s
  let noted :=
    { stored with
      schedule := { stored.schedule with
        status := stored.schedule.status.set i (some { result := result, cycle := s.cycle.number }) } }
  if slot.report.posts result then
    noted.post { Entry.blank .slot result.code s.cycle.number with
      station := slot.station, index := BitVec.ofNat 8 i.val, causes := causes }
  else noted

/-- Applying a swap: the other page becomes active, the slot status table is emptied, swap pending is
cleared and SWAP_DONE is posted (R98). -/
def State.applySwap (s : State) : State :=
  let page := s.schedule.active.other
  State.post
    { s with
      schedule := { s.schedule with
        active := page, status := Vector.replicate 32 none, swapPending := false } }
    { Entry.blank .swapDone 0 s.cycle.number with index := BitVec.ofNat 8 page.code }

/-- Applying a swap if one is pending (R24, R100). -/
def State.applyPendingSwap (s : State) : State := if s.schedule.swapPending then s.applySwap else s

/-! ### Budgets (R28 to R30) -/

/-- The budget of a request to a station 1 to 62 (R28). -/
def requestBudget (nout ncap window : Nat) : Nat := 10 * (12 + nout + ncap) + window

/-- The budget of a broadcast (R28). -/
def broadcastBudget (nout : Nat) : Nat := 10 * (6 + nout)

/-- The budget of a roll call (R28). -/
def rollBudget (window : Nat) : Nat := 210 + window

/-- The cut-off test: c + B ≤ P − G, as integers (R29). -/
def State.fits (s : State) (budget : Nat) : Bool :=
  decide (s.cycle.clock + budget + s.settings.guard ≤ s.settings.period)

/-- Never fits: 114 + B > P − G, as integers (R30). -/
def State.neverFits (s : State) (budget : Nat) : Bool :=
  decide (s.settings.period < Config.firstOpportunity + budget + s.settings.guard)

/-- The budget of a slot whose request carries `nout` out bytes (R28). -/
def State.slotBudget (s : State) (slot : Slot) (nout : Nat) : Nat :=
  requestBudget nout slot.inCapacity.toNat (s.station slot.station).window

/-- The broadcast address (R58). -/
def broadcastAddress : Address := 63

/-- The budget of an exchange to an address with an out length and an in capacity (R28). -/
def State.budgetTo (s : State) (a : Address) (nout ncap : Nat) : Nat :=
  if a = broadcastAddress then broadcastBudget nout else requestBudget nout ncap (s.station a).window

/-- The budget of a ring record (R28, R122). -/
def State.recordBudget (s : State) (r : RingRecord) : Nat :=
  s.budgetTo r.station r.outLength.toNat r.inCapacity.toNat

/-- The tests of a record at staging and at each offer, in order: the station's state, TOO_LONG, never
fits. A broadcast skips the first two. The result of the first that fails (R35, R122). -/
def State.recordVerdict (s : State) (r : RingRecord) : Option Result :=
  let station := s.station r.station
  if r.station != broadcastAddress && !station.state.inService then some station.state.outResult
  else if r.station != broadcastAddress && decide (station.maxPayload < r.outLength.toNat) then some .tooLong
  else if s.neverFits (s.recordBudget r) then some .doesNotFit
  else none

/-! ### Validation (R94 to R96) -/

/-- The reasons of a failed check, with their codes (R96, R179). -/
inductive Invalid where
  | badStation
  | areaBounds
  | length
  | ratePhase
  | overbooked
  | period
  deriving DecidableEq, Repr

/-- The reason codes (R96, R179). -/
def Invalid.code : Invalid → BitVec 4
  | .badStation => 1
  | .areaBounds => 2
  | .length => 3
  | .ratePhase => 4
  | .overbooked => 5
  | .period => 6

/-- The legal rates (R89). -/
def legalRates : List Nat := [1, 2, 4, 8, 16]

/-- The four checks of an enabled slot, in order (R94). -/
def Slot.check (x : Slot) : Option Invalid :=
  if x.station = 0 || x.station = broadcastAddress then some .badStation
  else if Config.exchangeBytes < x.outOffset.toNat + x.outLength.toNat
      || Config.exchangeBytes < x.inOffset.toNat + x.inCapacity.toNat then some .areaBounds
  else if Config.maxPayload < x.outLength.toNat || Config.maxPayload < x.inCapacity.toNat then some .length
  else if !(legalRates.contains x.rate.toNat) || x.rate.toNat ≤ x.phase.toNat then some .ratePhase
  else none

/-- The first enabled slot that fails its checks, in index order, with its reason (R94). -/
def firstBadSlot (page : Vector Slot 32) : Option (Invalid × Fin 32) :=
  (List.finRange 32).findSome? fun i =>
    if (page[i]).enable then ((page[i]).check).map (·, i) else none

/-- The sum of the overbooking check for a residue: the mark, and for each slot due its budget and the
line quiet before it (R95). -/
def State.residueLoad (s : State) (page : Vector Slot 32) (residue : Nat) : Nat :=
  (List.finRange 32).foldl
    (fun sum i =>
      let slot := page[i]
      if slot.dueIn residue then sum + (Config.quietRun + s.slotBudget slot slot.outLength.toNat) else sum)
    90

/-- Overbooked: some residue's sum exceeds P − G (R95). DEDUCED: a page with no enabled slot passes this check
too, as R94 says of it, though R95's sum for it, the mark's 90, can exceed P − G (log entry 24). -/
def State.overbooked (s : State) (page : Vector Slot 32) : Bool :=
  ((List.finRange 32).any fun i => (page[i]).enable)
    && (List.range 16).any fun r => decide (s.settings.period < s.residueLoad page r + s.settings.guard)

/-- The verdict of validation: `none` is a pass (R94 to R96). -/
def State.validate (s : State) (page : Vector Slot 32) : Option (Invalid × Byte) :=
  match firstBadSlot page with
  | some (reason, i) => some (reason, BitVec.ofNat 8 i.val)
  | none => if s.overbooked page then some (.overbooked, 0) else none

/-! ### The Cycle Unit's conditions and the entry to HALTED -/

/-- The line is quiet while the idle run is 24 (R3). -/
def State.quiet (s : State) : Bool := decide (s.line.idleRun = Config.quietRun)

/-- The transmitter is IDLE and the line is quiet: what every beginning of a transmission waits for
(R9). -/
def State.ready (s : State) : Bool := s.line.tx.isNone && s.quiet

/-- The engine states in which the receiver delimits frames (R14). -/
def Engine.delimits : Engine → Bool
  | .starting | .running | .stopping | .lineFault => true
  | .init | .halted => false

/-- A selection point makes a selection owed, in OPEN and RUNNING, unless a mark is wanted (R33, R23;
log entry 11). -/
def State.selectionPoint (s : State) : State :=
  if s.engine = .running && s.cycle.phase = .opened && s.cycle.want.isNone then
    { s with cycle := { s.cycle with owed := true } }
  else s

/-- The walk moves on from a slot index: to the next slot that is enabled and due, or it is finished, the
phase becomes OPEN and a selection is owed unless the mark is already due (R31, R33). -/
def State.walkFrom (s : State) (start : Nat) : State :=
  match s.dueSlotFrom start with
  | some i => { s with cycle := { s.cycle with walk := some i } }
  | none =>
    { s with cycle := { s.cycle with walk := none, phase := .opened, owed := s.cycle.want.isNone } }

/-- The mark want ends and an owed selection is dropped: the engine leaves RUNNING or STARTING (R27,
R33). -/
def State.dropCycleWork (s : State) : State :=
  { s with cycle := { s.cycle with want := none, owed := false } }

/-- An entry to HALTED other than from INIT and by SOFT_RESET: the receiver returns to IDLE, the late watch
ends, a pending swap is applied and the HALTED flag is set (R188). -/
def State.enterHalted (s : State) : State :=
  let halted :=
    { s.dropCycleWork with
      engine := .halted
      line := { s.line with rx := { s.line.rx with state := .idle } }
      lateWatch := none
      lateFrame := none }
  (halted.applyPendingSwap).raise .halted

/-- A transmission cut by ABORT or SOFT_RESET: the transmitter becomes IDLE and the receiver enters
ABANDONING, with no cut report and no advance of the streak; a mark cut this way returns the cycle number
to its old value (R12, R26). -/
def State.cutByEngine (s : State) : State :=
  match s.line.tx with
  | none => s
  | some t =>
    let cut :=
      { s with
        line := { s.line with
          tx := none, idleRun := 0, rest := .heldAfterCut, cell := none,
          rx := { s.line.rx with state := .abandoning } } }
    match t.user with
    | .attempt => cut
    | .mark =>
      { cut with
        cycle := { s.cycle with number := s.cycle.oldNumber.getD s.cycle.number, oldNumber := none } }

/-! ### COMMAND_STATUS (R179) -/

/-- The decision of a command replaces the whole of COMMAND_STATUS (R178, R179). -/
def State.setDecision (s : State) (code arg : Byte) (decision : Decision) (detail : BitVec 4) (index : Byte) :
    State :=
  { s with
    host := { s.host with
      commandStatus := { code := code, arg := arg, decision := decision, detail := detail, index := index } } }

/-- A command that has acted in full (R179). -/
def State.done (s : State) (code arg : Byte) : State := s.setDecision code arg .done 0 0

/-- A command taken whose effect completes later (R179). -/
def State.accepted (s : State) (code arg : Byte) : State := s.setDecision code arg .accepted 0 0

/-- A command not taken in the state found, with that state's code (R179). -/
def State.refusedState (s : State) (code arg : Byte) (detail : Nat) : State :=
  s.setDecision code arg .refusedState (BitVec.ofNat 4 detail) 0

/-- A command whose code or argument is out of range (R179). -/
def State.refusedArgument (s : State) (code arg : Byte) : State := s.setDecision code arg .refusedArgument 0 0

/-- A host access: ignored in INIT, with no flag and no decision (R176); otherwise taken whole. -/
def State.hostAccess (s : State) (effect : State → State) : Answer :=
  if s.engine = .init then .next s else .next (effect s)

end Sys2Proof.Machine
end

