-- ==== Sys2Proof/Machine/ConfigWrites.lean ====
section
/-! DEFINITION. Writes of the six engine configuration registers (R191, R192). In INIT they are ignored
(R176). -/

namespace Sys2Proof.Machine

/-- A write taken in HALTED alone; in any other state it stores nothing and sets WRITE_REFUSED (R191). -/
def State.haltedWrite (s : State) (effect : State → State) : State :=
  if s.engine = .halted then effect s else s.misuse .writeRefused

/-- LINE_CONFIG_WRITE: the bit rate code, 4 to 7 stored as 3; the idle run returns to 0 (R1, R192). DESIGN CHOICE: a cell in
progress goes on with its count of bit times (log entry 27). -/
def execLineConfigWrite (data : Word) (s : State) : Answer :=
  s.hostAccess (·.haltedWrite fun s =>
    let code := clampField 0 3 (fieldOf data 0 3)
    State.clampedIf
      { s with
        settings := { s.settings with bitRate := BitVec.ofNat 2 code.1 }
        line := { s.line with idleRun := 0 } }
      code.2)

/-- CYCLE_PERIOD_WRITE: P, 2,000 to 1,048,575 (R22, R192). -/
def execCyclePeriodWrite (data : Word) (s : State) : Answer :=
  s.hostAccess (·.haltedWrite fun s =>
    let p := clampField 2000 1048575 (fieldOf data 0 20)
    State.clampedIf { s with settings := { s.settings with period := p.1 } } p.2)

/-- GUARD_WRITE: G, 24 to 4,095 (R22, R192). -/
def execGuardWrite (data : Word) (s : State) : Answer :=
  s.hostAccess fun s =>
    let g := clampField 24 4095 (fieldOf data 0 12)
    State.clampedIf { s with settings := { s.settings with guard := g.1 } } g.2

/-- Every SUSPECT station whose miss count is at or above the miss limit enters LOST, in ascending address
order, each with its own entry (R78). -/
def State.loseAtLimit (s : State) : State :=
  (List.finRange 62).foldl
    (fun t i =>
      let r := t.stations[i]
      if r.state = .suspect && decide (t.settings.missLimit ≤ r.missCount) then t.enterLost (addressAt i)
      else t)
    s

/-- MISS_LIMIT_WRITE: the limit, 1 to 7, acting at the write (R78, R192). -/
def execMissLimitWrite (data : Word) (s : State) : Answer :=
  s.hostAccess fun s =>
    let m := clampField 1 7 (fieldOf data 0 3)
    (State.clampedIf { s with settings := { s.settings with missLimit := m.1 } } m.2).loseAtLimit

/-- ROLLCALL_CONFIG_WRITE: enable, interval 1 to 255 and window Wrc 16 to 1,023, each brought into range on
its own (R36, R192). -/
def execRollcallConfigWrite (data : Word) (s : State) : Answer :=
  s.hostAccess fun s =>
    let interval := clampField 1 255 (fieldOf data 8 8)
    let window := clampField 16 1023 (fieldOf data 16 11)
    State.clampedIf
      { s with
        settings := { s.settings with
          rollEnable := data.getLsbD 0, rollInterval := interval.1, rollWindow := window.1 } }
      (interval.2 || window.2)

/-- NOTIFY_THRESHOLD_WRITE: 1 to 32, used from the next placement (R171, R192). -/
def execNotifyThresholdWrite (data : Word) (s : State) : Answer :=
  s.hostAccess fun s =>
    let t := clampField 1 32 (fieldOf data 0 6)
    State.clampedIf { s with settings := { s.settings with notifyThreshold := t.1 } } t.2

end Sys2Proof.Machine
end

