-- ==== Sys2Proof/Machine/Master.lean ====
section
/-! DEFINITION. The Memory Master and the Ring Unit: word transfers, the request queue, fetching, staging,
completion, write-back and halts (06_acyclic_rings.md, 07_the_memory_master.md). -/

namespace Sys2Proof.Machine

/-! ### Rings -/

/-- The other ring. -/
def otherRing : Ring → Ring
  | .u => .n
  | .n => .u

/-- The state of a ring. -/
def State.ringUnit (s : State) : Ring → RingUnit
  | .u => s.ringU
  | .n => s.ringN

/-- Replacing the state of a ring. -/
def State.setRing (s : State) (r : Ring) (x : RingUnit) : State :=
  match r with
  | .u => { s with ringU := x }
  | .n => { s with ringN := x }

/-- The address of a record: base + 32 × index, modulo 2^32 (R112, R137). -/
def RingUnit.recordAddress (x : RingUnit) (index : Nat) : Word := x.base + BitVec.ofNat 32 (32 * index)

/-! ### Word transfers (R138 to R141) -/

/-- One transfer on the port: the aligned word it reaches, whether it writes, its first byte within the
word, its count of bytes, and the bytes it writes. -/
structure Transfer where
  address : Word
  write : Bool
  lane : Nat
  count : Nat
  data : List Byte
  deriving DecidableEq, Repr

/-- The transfers of a run of bytes, one for each aligned word, in ascending order (R140). The first
argument bounds the number of words. -/
def spans : Nat → Bool → Word → Nat → List Byte → List Transfer
  | 0, _, _, _, _ => []
  | fuel + 1, write, address, count, data =>
    let lane := address.toNat % 4
    let here := min count (4 - lane)
    let transfer :=
      { address := address - BitVec.ofNat 32 lane, write := write, lane := lane, count := here,
        data := data.take here }
    if count ≤ here then [transfer]
    else transfer :: spans fuel write (address + BitVec.ofNat 32 here) (count - here) (data.drop here)

/-- The transfers of a request, in order: a RECORD_READ reads word 4, then words 0, 1, 2, 3 and 5 (R139); a
DATA_READ or DATA_WRITE goes upward (R140); a STATUS_WRITE writes word 5 and then word 4 (R141). The data
of a STATUS_WRITE is word 4 and then word 5, as they lie in memory. -/
def Request.transfers (q : Request) : List Transfer :=
  match q.kind with
  | .recordRead =>
    [16, 0, 4, 8, 12, 20].map fun k =>
      { address := q.address + BitVec.ofNat 32 k, write := false, lane := 0, count := 4, data := [] }
  | .dataRead => spans q.count false q.address q.count []
  | .dataWrite => spans q.count true q.address q.count q.data
  | .statusWrite =>
    [{ address := q.address + 4, write := true, lane := 0, count := 4, data := q.data.drop 4 },
     { address := q.address, write := true, lane := 0, count := 4, data := q.data.take 4 }]

/-- The bytes of a DATA_READ, from the words its transfers read (R121, R140). -/
def Request.bytesRead (q : Request) : List Byte :=
  (q.transfers.zip q.words).flatMap fun (t, w) => ((wordBytes w).drop t.lane).take t.count

/-- The transfer on the memory port: the next one of the begun request (R138). -/
def State.portTransfer (s : State) : Option Transfer :=
  match s.requests with
  | [] => none
  | q :: _ => if q.begun then q.transfers[q.answered]? else none

/-! ### The request queue (R136, R138) -/

/-- The bytes of words 4 and 5 that a STATUS_WRITE carries, from the ring's current record (R126, R197). -/
def RingRecord.statusBytes (r : RingRecord) : List Byte :=
  match r.completion with
  | none => []
  | some c =>
    let replyLength := (c.reply.map (·.payload.length)).getD 0
    let condition := (c.reply.map (·.condition)).getD 0
    wordBytes (statusWord4 c.result replyLength r.tries r.reissued c.cycle)
      ++ wordBytes (statusWord5 r.causes condition)

/-- The oldest request begins when the port is free; a STATUS_WRITE forms its words at that moment (R126,
R138). -/
def State.serve (s : State) : State :=
  match s.requests with
  | [] => s
  | q :: rest =>
    if q.begun then s
    else
      let data :=
        match q.kind, (s.ringUnit q.ring).current with
        | .statusWrite, some r => r.statusBytes
        | _, _ => q.data
      { s with requests := { q with begun := true, data := data } :: rest }

/-- A ring issues a request: it joins the queue as the newest, and begins at once on a free port (R136,
R138). -/
def State.issue (s : State) (q : Request) : State := State.serve { s with requests := s.requests ++ [q] }

/-- A request as its ring issues it. -/
def Request.fresh (kind : RequestKind) (ring : Ring) (index : Byte) (address : Word) (count : Nat)
    (data : List Byte) : Request :=
  { kind := kind, ring := ring, index := index, address := address, count := count, data := data,
    begun := false, discarded := false, sole := false, answered := 0, words := [] }

/-- The requests left when a ring gives up its own: queued ones are dropped, a begun one runs on with its
outcome discarded (R144). -/
def dropRequests (ours : Request → Bool) (requests : List Request) : List Request :=
  (requests.filter fun q => !(ours q) || q.begun).map fun q =>
    if ours q then { q with discarded := true } else q

/-! ### Fetching (R118) -/

/-- The ring may fetch: ACTIVE, pending above 0, no current record, no request of its own in the queue
(R118). DEDUCED: nor while the queue holds the one request that a SOFT_RESET left begun, of whichever ring
(R136, R145; log entry 25). -/
def State.mayFetch (s : State) (r : Ring) : Bool :=
  let x := s.ringUnit r
  x.state = .active && decide (0 < x.pending) && x.stage = .none
    && !(s.requests.any fun q => q.ring = r || q.sole)

/-- Issuing the RECORD_READ of the record at head when the ring may fetch (R118). -/
def State.tryFetch (s : State) (r : Ring) : State :=
  if s.mayFetch r then
    let x := s.ringUnit r
    (s.setRing r { x with stage := .fetching }).issue
      (.fresh .recordRead r (BitVec.ofNat 8 x.head) (x.recordAddress x.head) 24 [])
  else s

/-! ### Completion and write-back (R125, R126) -/

/-- The DATA_WRITE of a reply of length above 0 (R126). -/
def State.issueReply (s : State) (r : Ring) (record : RingRecord) (reply : Option Reply) : State :=
  match reply with
  | some p =>
    if p.payload.length = 0 then s
    else s.issue (.fresh .dataWrite r record.index record.inAddress p.payload.length p.payload)
  | none => s

/-- A taken record completes: it keeps its result, reply and completion cycle, its stage becomes
WRITING_BACK, and the write-back is issued, a DATA_WRITE for a reply of length above 0 and then the
STATUS_WRITE (R125, R126). -/
def State.completeRecord (s : State) (r : Ring) (record : RingRecord) (result : Result)
    (reply : Option Reply) : State :=
  let x := s.ringUnit r
  let completed :=
    { record with completion := some { result := result, cycle := s.cycle.number, reply := reply } }
  let s := s.setRing r { x with stage := .writingBack, current := some completed }
  let s := s.issueReply r record reply
  s.issue (.fresh .statusWrite r record.index (x.recordAddress record.index.toNat + 16) 8 [])

/-- The staging tests: the record completes without bus time, or it becomes the ring's staged record, which
is a selection point when the context is empty and no selection is owed (R122, R33). -/
def State.stageRecord (s : State) (r : Ring) (record : RingRecord) : State :=
  match s.recordVerdict record with
  | some result => s.completeRecord r record result none
  | none =>
    let staged := s.setRing r { s.ringUnit r with stage := .staged, current := some record }
    if staged.context.isNone then staged.selectionPoint else staged

/-! ### Halts (R130) -/

/-- A ring halts: its state and reason, the RING flag, and a RING_HALT entry. A WRITEBACK_FAULT names its
failed record's station, cause set and REISSUED flag (R130). -/
def State.haltRing (s : State) (r : Ring) (reason : HaltReason) (index : Byte)
    (failed : Option RingRecord) : State :=
  let x := s.ringUnit r
  let s := (s.setRing r { x with state := .halted, reason := reason, stage := .none, current := none }).raise
    .ring
  s.post
    { Entry.blank .ringHalt (BitVec.ofNat 5 reason.code) s.cycle.number with
      ring := r
      index := index
      station := (failed.map (·.station)).getD 0
      causes := (failed.map (·.causes)).getD 0
      reissued := (failed.map (·.reissued)).getD false }

/-! ### The outcomes of requests (R119 to R121, R127, R128) -/

/-- A taken record is invalid: station 0, out length or in capacity above 120, or retry limit above 3
(R120). -/
def RingRecord.invalid (r : RingRecord) : Bool :=
  r.station = 0 || decide (Config.maxPayload < r.outLength.toNat)
    || decide (Config.maxPayload < r.inCapacity.toNat) || decide (3 < r.retryLimit.toNat)

/-- A record is taken: head and pending move, its fields are copied, and it is validated. An invalid one
completes BAD_RECORD; a valid one has its out data read, or with none goes to the staging tests (R119,
R120, R121). -/
def State.takeRecord (s : State) (r : Ring) (w0 w1 w2 w3 : Word) : State :=
  let x := s.ringUnit r
  let record := recordOfWords (BitVec.ofNat 8 x.head) w0 w1 w2 w3
  let s := s.setRing r
    { x with head := (x.head + 1) % x.length, pending := x.pending - 1, current := some record }
  if record.invalid then s.completeRecord r record .badRecord none
  else if record.outLength = 0 then s.stageRecord r record
  else
    (s.setRing r { s.ringUnit r with stage := .loading }).issue
      (.fresh .dataRead r record.index record.outAddress record.outLength.toNat [])

/-- The outcome of a RECORD_READ (R119). -/
def State.recordReadDone (s : State) (q : Request) (ok : Bool) : State :=
  if !ok then s.haltRing q.ring .fetchFault q.index none
  else if !(ownedByController (q.words.getD 0 0)) then s.haltRing q.ring .ownership q.index none
  else s.takeRecord q.ring (q.words.getD 1 0) (q.words.getD 2 0) (q.words.getD 3 0) (q.words.getD 4 0)

/-- The outcome of a DATA_READ (R121). -/
def State.dataReadDone (s : State) (q : Request) (ok : Bool) : State :=
  match (s.ringUnit q.ring).current with
  | none => s
  | some record =>
    if ok then s.stageRecord q.ring { record with outData := q.bytesRead }
    else s.completeRecord q.ring record .memoryFault none

/-- The outcome of a DATA_WRITE: on ERROR the STATUS_WRITE will carry MEMORY_FAULT and reply length 0, all
else as formed (R127). -/
def State.dataWriteDone (s : State) (q : Request) (ok : Bool) : State :=
  let x := s.ringUnit q.ring
  match x.current with
  | none => s
  | some record =>
    if ok then s
    else
      let failed (c : Completion) : Completion :=
        { c with result := .memoryFault, reply := c.reply.map fun p => { p with payload := [] } }
      s.setRing q.ring { x with current := some { record with completion := record.completion.map failed } }

/-- A record's RECORD entry is asked for: NOTIFY set, or a result as written other than OK and SENT
(R128). -/
def RingRecord.wantsEntry (r : RingRecord) (result : Result) : Bool :=
  r.notify || (result != .ok && result != .sent)

/-- The outcome of a STATUS_WRITE: the record is returned, with a RECORD entry where one is asked for, or
the ring halts with WRITEBACK_FAULT (R128, R129). -/
def State.statusWriteDone (s : State) (q : Request) (ok : Bool) : State :=
  let x := s.ringUnit q.ring
  match x.current with
  | none => s
  | some record =>
    if ok then
      let s := s.setRing q.ring { x with stage := .none, current := none }
      match record.completion with
      | none => s
      | some c =>
        if record.wantsEntry c.result then
          s.post
            { Entry.blank .record c.result.code c.cycle with
              reissued := record.reissued, ring := q.ring, station := record.station,
              index := record.index, causes := record.causes }
        else s
    else s.haltRing q.ring .writebackFault record.index (some record)

/-- Which ring's issue is taken first where both rings issue at this moment: a FREE VALUE, since R136 lets either be
(log entries 25 and 30). -/
def State.issuesFirst (s : State) : Ring := if Config.ringUFirst s.orderIndex then .u else .n

/-- The fetches that the end of a discarded request lets be issued: its ring's (R118, R144), or, after the one
request that a SOFT_RESET left begun, both rings', in an order that is a free value (R136, R145; log entry 25). -/
def State.fetchAfter (s : State) (q : Request) : State :=
  if q.sole then
    (State.tryFetch { s with orderIndex := s.orderIndex + 1 } s.issuesFirst).tryFetch (otherRing s.issuesFirst)
  else s.tryFetch q.ring

/-- The outcome of a request that is not discarded, which its ring acts on (R119, R121, R127, R128). -/
def State.takeOutcome (s : State) (q : Request) (ok : Bool) : State :=
  match q.kind with
  | .recordRead => s.recordReadDone q ok
  | .dataRead => s.dataReadDone q ok
  | .dataWrite => s.dataWriteDone q ok
  | .statusWrite => s.statusWriteDone q ok

/-- A request leaves the queue with its outcome: the ring acts on it unless it is discarded, a fetch that now
may be made is issued, and the next request begins (R138, R118, R144, R145). -/
def State.finishRequest (s : State) (q : Request) (rest : List Request) (ok : Bool) : State :=
  let s := { s with requests := rest }
  let s := if q.discarded then s.fetchAfter q else (s.takeOutcome q ok).tryFetch q.ring
  s.serve

/-- The memory answers the transfer on the port: the last answer or the first error completes the request;
any other answer leads to its next transfer (R138). -/
def State.transferAnswered (s : State) (success : Bool) (word : Word) : State :=
  match s.requests with
  | [] => s
  | q :: rest =>
    if !q.begun then s
    else if !success then s.finishRequest q rest false
    else
      let q := { q with answered := q.answered + 1, words := q.words ++ [word] }
      if q.transfers.length ≤ q.answered then s.finishRequest q rest true
      else { s with requests := q :: rest }

end Sys2Proof.Machine
end

