-- ==== Sys2Proof/Machine/Time.lean ====
section
/-! DEFINITION. Time. Every trunk time is a count of bit times (00_scope.md, Time and units). `elapse k` is
the passing of k bit times with no event in them; the counts of bit times left say when the next event of
each kind falls (log entries 1 and 4). -/

namespace Sys2Proof.Machine

/-- The Line Unit over k bit times (R1, R3): a transmission sends k more bits; a cell in progress goes on; a
resting line counts up to 24; a held line comes back to rest when the line lets it (log entry 3). -/
def LineUnit.elapse (x : LineUnit) (k : Nat) : LineUnit :=
  match x.tx with
  | some t => { x with tx := some { t with sent := t.sent + k } }
  | none =>
    match x.cell with
    | some age => { x with cell := some (age + k) }
    | none =>
      if x.rest = .resting then { x with idleRun := min Config.quietRun (x.idleRun + k) }
      else
        let rested := min k (Config.restBits x.freeIndex)
        if rested = 0 then { x with freeIndex := x.freeIndex + 1 }
        else
          { x with
            freeIndex := x.freeIndex + 1, rest := .resting, idleRun := min Config.quietRun rested }

/-- The cycle clock advances in RUNNING, STOPPING and LINE_FAULT and stops at its greatest value (R21). -/
def Engine.clockRuns : Engine → Bool
  | .running | .stopping | .lineFault => true
  | .init | .halted | .starting => false

/-- The Cycle Unit over k bit times: the clock (R21) and the age of a mark want (R27). -/
def CycleUnit.elapse (x : CycleUnit) (engine : Engine) (k : Nat) : CycleUnit :=
  { x with
    clock := if engine.clockRuns then min Config.clockLimit (x.clock + k) else x.clock
    want := x.want.map fun w => { w with age := w.age + k } }

/-- The exchange context over k bit times: the window expiry draws nearer, whether or not the clock holds
(R21, R42), and goes below 0 while a cell in progress holds it. -/
def Exchange.elapse (x : Exchange) (k : Nat) : Exchange := { x with expiry := x.expiry.map (· - (k : Int)) }

/-- The passing of k bit times with no event in them. In INIT no trunk time is kept (R3, R21). -/
def State.elapse (s : State) (k : Nat) : State :=
  if k = 0 || s.engine = .init then s
  else
    { s with
      line := s.line.elapse k
      cycle := s.cycle.elapse s.engine k
      context := s.context.map (·.elapse k) }

/-! ### Bit times left -/

/-- Bit times left of a transmission: each of its cells lasts 10 (R1). -/
def Transmission.left (t : Transmission) : Nat := Config.cellBits * t.frame.length - t.sent

/-- Bit times left of a cell in progress (R2). -/
def cellLeft (age : Nat) : Nat := Config.cellBits - age

/-- Bit times left before the line is quiet, if it rests (R3). -/
def State.quietLeft (s : State) : Nat := Config.quietRun - s.line.idleRun

/-- Bit times left of the gap that a frame allows between two cells (R17). -/
def State.gapLeft (s : State) : Nat := Config.gapLimit - s.line.idleRun

/-- Bit times left before the mark falls due (R23). -/
def State.dueLeft (s : State) : Nat := s.settings.period - s.cycle.clock

/-- Bit times left before a mark want reaches the quiet-wait limit (R27). -/
def State.waitLeft (s : State) (w : MarkWant) : Nat := s.settings.period - w.age

/-! ### What can happen -/

/-- No cell is in progress and nothing is being sent. -/
def LineUnit.atRest (x : LineUnit) : Bool := x.tx.isNone && x.cell.isNone

/-- The gap limit can expire: a frame is being taken and no cell of it is in progress (R17). -/
def State.gapRuns (s : State) : Bool :=
  s.engine.delimits && s.line.rx.state = .inFrame && s.line.atRest

/-- The line can become quiet: nothing is on it, and no frame is being taken, since the gap limit comes
before the quiet line (R3, R17). -/
def State.quietRuns (s : State) : Bool :=
  s.engine != .init && s.line.atRest && s.line.rx.state != .inFrame

/-- Bit times left before the window expiry, while the reply window runs and no cell in progress holds it
(R42). -/
def State.windowLeft? (s : State) : Option Nat :=
  match s.context with
  | none => none
  | some e => if e.state = .awaitingReply && s.line.cell.isNone then e.expiry.map Int.toNat else none

/-- The mark can fall due: in RUNNING, with no want standing and no mark being sent (R23). -/
def State.dueRuns (s : State) : Bool :=
  s.engine = .running && s.cycle.want.isNone && !(s.line.tx.any (·.user = .mark))

/-- The quiet-wait limit runs in STARTING and in RUNNING, while a mark is wanted (R27). -/
def State.waitLeft? (s : State) : Option Nat :=
  if s.engine = .starting || s.engine = .running then s.cycle.want.map s.waitLeft else none

/-- A wanted mark can begin: the transmitter is IDLE, the line is quiet and the context is empty (R23, R26,
R38). -/
def State.markCanBegin (s : State) : Bool :=
  (s.engine = .starting || s.engine = .running) && s.cycle.want.isSome && s.context.isNone && s.ready

/-- The walk's slot has its transmit opportunity (R31); no exchange starts while a mark is wanted (R23). -/
def State.slotCanRun (s : State) : Bool :=
  s.engine = .running && s.cycle.phase = .cyclic && s.cycle.walk.isSome && s.cycle.want.isNone
    && s.context.isNone && s.ready

/-- An owed selection can be made (R33). -/
def State.selectionCanRun (s : State) : Bool :=
  s.engine = .running && s.cycle.phase = .opened && s.cycle.owed && s.cycle.want.isNone
    && s.context.isNone && s.ready

/-- An owed retry has its transmit opportunity (R53). -/
def State.retryCanRun (s : State) : Bool := s.context.any (·.state = .ending) && s.ready

end Sys2Proof.Machine
end

