-- ==== Sys2Proof/Machine/Exchanges.lean ====
section
/-! DEFINITION. The Exchange Unit and the Line Unit's part in it: beginning a transmission and a try, how a
try concludes, retries and the return to staging, the end of an exchange, interrupted exchanges, and the
frames the receiver takes (01_the_trunk_line.md, 03_exchanges.md). -/

namespace Sys2Proof.Machine

/-! ### Beginning a transmission (R9) -/

/-- The Line Unit accepts a transmit request: the transmitter becomes BUSY with the frame fixed, its first
start bit ends the line's rest, a receiver still in ABANDONING returns to IDLE, and a late watch ends
(R4, R9, R19, R48). -/
def State.transmit (s : State) (user : TxUser) (frame : List Byte) : State :=
  { s with
    line := { s.line with
      tx := some { user := user, frame := frame, sent := 0 }, idleRun := 0, rest := .resting, cell := none,
      rx := { s.line.rx with
        state := if s.line.rx.state = .abandoning then .idle else s.line.rx.state } }
    lateWatch := none }

/-! ### Tries (R41, R50, R51) -/

/-- The exchange is with a station 1 to 62, and so is supervised and accounted: it is no roll call and no
broadcast (R57, R58, R59). -/
def Exchange.toStation (e : Exchange) : Bool := e.source != .rollCall && e.station != broadcastAddress

/-- A try of an exchange with a station takes its tag, and the station's next tag moves on when the tag is
fresh: at the first try (R50), and at a later try that finds the next tag no longer the exchange's tag
plus 1, which sets REISSUED (R51). A broadcast and a roll call touch no station (R50). -/
def State.takeTag (s : State) (e : Exchange) : State × Exchange :=
  if !e.toStation then (s, { e with tag := 0 })
  else
    let next := (s.station e.station).nextTag
    if e.tries ≠ 0 ∧ next = e.tag + 1 then (s, e)
    else
      (s.setStation e.station { s.station e.station with nextTag := next + 1 },
       { e with tag := next, reissued := e.reissued || decide (e.tries ≠ 0) })

/-- The window fixed at a try's beginning: W of the station, Wrc for a roll call, none for a broadcast (R41),
held as 0 (DESIGN CHOICE, log entry 31). -/
def State.tryWindow (s : State) (e : Exchange) : Nat :=
  if e.source = .rollCall then s.settings.rollWindow
  else if e.station = broadcastAddress then 0
  else (s.station e.station).window

/-- The frame of a try (R7, R8). -/
def Exchange.frame (e : Exchange) : List Byte :=
  if e.source = .rollCall then rollFrame e.station
  else requestFrame e.station e.tag e.stale e.function e.outData

/-- A try begins: tag, window, tries used, no last outcome and no reply, the frame handed to the Line Unit
(R41). -/
def State.beginTry (s : State) (e : Exchange) : State :=
  let (s, e) := s.takeTag e
  let e :=
    { e with
      window := s.tryWindow e, tries := e.tries + 1, last := none, reply := none, expiry := none,
      state := .transmitting }
  ({ s with context := some e }).transmit .attempt e.frame

/-- An exchange that enters the context: a stay starts with no unaccounted causes and unanswered (R39). The
fields that its source does not give stay 0, empty or clear (DESIGN CHOICE, log entry 31). -/
def Exchange.enter (source : Source) (station : Address) : Exchange :=
  { source := source, station := station, tag := 0, function := 0, stale := false, outData := [],
    inCapacity := 0, retryLimit := 0, tries := 0, window := 0, expiry := none, causes := 0,
    unaccounted := 0, answered := false, reissued := false, orphaned := false, last := none,
    reply := none, state := .transmitting }

/-- The exchange of a slot: the out-area is copied now, unless the hold flag makes the request STALE (R40,
R102, R109). -/
def State.slotExchange (s : State) (i : Fin 32) : Exchange :=
  let slot := s.schedule.activePage[i]
  let held := s.schedule.held i
  { Exchange.enter (.slot i) slot.station with
    function := slot.function
    stale := held
    outData := if held then [] else s.exmem.bytesAt slot.outOffset.toNat slot.outLength.toNat
    inCapacity := slot.inCapacity.toNat }

/-- The exchange of a staged record, with the progress of its earlier stays (R40, R55); a broadcast has no
retry (R58). -/
def RingRecord.exchange (record : RingRecord) (r : Ring) : Exchange :=
  { Exchange.enter (.ring r record.index) record.station with
    tag := record.tag
    function := record.function
    outData := record.outData
    inCapacity := record.inCapacity.toNat
    retryLimit := if record.station = broadcastAddress then 0 else record.retryLimit.toNat
    tries := record.tries
    causes := record.causes
    reissued := record.reissued }

/-! ### The end of a stay (R54, R57) -/

/-- The accounting of an exchange with a station: code 1 and the slot index for a slot exchange, code 2,
the record index and the ring for a ring record (R149, R152). A broadcast and a roll call make none
(R150). -/
def State.accountExchange (s : State) (e : Exchange) : State :=
  if !e.toStation then s
  else
    match e.source with
    | .slot i =>
      s.account e.station e.unaccounted { Entry.blank .alert 1 0 with index := BitVec.ofNat 8 i.val }
    | .ring r index =>
      s.account e.station e.unaccounted { Entry.blank .alert 2 0 with index := index, ring := r }
    | .rollCall => s

/-- The stay's supervision update (R54, R57). -/
def State.superviseExchange (s : State) (e : Exchange) : State :=
  if e.toStation then s.supervise e.station e.answered else s

/-- The ring's record with the progress that the Exchange Unit hands back (R54, R124, R125). -/
def RingRecord.withProgress (record : RingRecord) (e : Exchange) : RingRecord :=
  { record with tries := e.tries, tag := e.tag, causes := e.causes, reissued := e.reissued }

/-- The source takes the result: a slot turns OK into OK_HELD by its hold flag of this moment (R103) and
takes it under R104; a ring completes its record, or discards the result of an orphaned exchange (R64,
R125, R134); a roll call's outcome goes to the Station Table by its own rules (R59). -/
def State.sourceTakes (s : State) (e : Exchange) (result : Result) (reply : Option Reply) : State :=
  match e.source with
  | .slot i =>
    let result := if result = .ok && s.schedule.held i then .okHeld else result
    s.slotResult i result e.causes ((reply.map (·.payload)).getD [])
  | .ring r _ =>
    if e.orphaned then s
    else
      match (s.ringUnit r).current with
      | none => s
      | some record => s.completeRecord r (record.withProgress e) result reply
  | .rollCall => s

/-- The context empties and the Cycle Unit is told: in STOPPING the engine enters HALTED (R184); in RUNNING
the walk moves on from a slot, and an exchange started in OPEN leaves a selection point (R31, R33, R39). -/
def State.emptyContext (s : State) (source : Source) : State :=
  let s := { s with context := none }
  match s.engine with
  | .stopping => s.enterHalted
  | .running =>
    match source with
    | .slot i => if s.cycle.walk.isSome then s.walkFrom (i.val + 1) else s
    | .ring _ _ => s.selectionPoint
    | .rollCall => s.selectionPoint
  | .init | .halted | .starting | .lineFault => s

/-- An exchange ends and is handed on: supervision, accounting, the source, and the context empties, in
this order (R57). For a broadcast and a roll call the first two steps do nothing (R58, R59). -/
def State.endExchange (s : State) (e : Exchange) (result : Result) (reply : Option Reply) : State :=
  ((((s.superviseExchange e).accountExchange e).sourceTakes e result reply)).emptyContext e.source

/-- A record returns to staging by a retry that did not begin: the stay's supervision and accounting, the
record staged again with its progress, and the context empties (R54, R124). -/
def State.returnToStaging (s : State) (e : Exchange) : State :=
  let s := (s.superviseExchange e).accountExchange e
  let s :=
    match e.source with
    | .ring r _ =>
      match (s.ringUnit r).current with
      | none => s
      | some record =>
        s.setRing r { s.ringUnit r with stage := .staged, current := some (record.withProgress e) }
    | .slot _ => s
    | .rollCall => s
  s.emptyContext e.source

/-- An exchange ended by ABORT or by the entry to LINE_FAULT: no supervision; its unaccounted causes are
accounted and its source takes the result with no reply; the context empties (R61, R62). The Cycle Unit
makes nothing of it, since the engine leaves RUNNING. -/
def State.interrupt (s : State) (result : Result) : State :=
  match s.context with
  | none => s
  | some e => { (s.accountExchange e).sourceTakes e result none with context := none }

/-! ### How a try concludes (R43 to R47, R52) -/

/-- The exchange after a try that ended in an outcome: its kind joins the cause set and the unaccounted
causes, an answered outcome marks the stay, and a reply is kept (R44, R46). -/
def Exchange.concluded (e : Exchange) (outcome : TryOutcome) (reply : Option Reply) : Exchange :=
  { e with
    causes := e.causes ||| outcome.kinds
    unaccounted := e.unaccounted ||| outcome.kinds
    answered := e.answered || outcome.isAnswered
    last := some outcome
    reply := reply
    expiry := none
    state := .ending }

/-- A further try is allowed: a retryable outcome of a ring record to a station, tries left, and not
orphaned (R52). -/
def Exchange.mayRetry (e : Exchange) (outcome : TryOutcome) : Bool :=
  outcome.isRetryable && e.toStation && decide (e.tries < 1 + e.retryLimit) && !e.orphaned
    && (match e.source with
        | .ring _ _ => true
        | .slot _ => false
        | .rollCall => false)

/-- What follows a concluded try: a retry is owed in RUNNING, the record returns to staging in STOPPING, and
in every other case the exchange ends with this outcome (R52). -/
def State.concludeTry (s : State) (e : Exchange) (outcome : TryOutcome) (reply : Option Reply) : State :=
  let e := e.concluded outcome reply
  if e.mayRetry outcome && s.engine = .running then { s with context := some e }
  else if e.mayRetry outcome && s.engine = .stopping then s.returnToStaging e
  else s.endExchange e outcome.result reply

/-- A roll call that ends with no outcome for the Station Table: the context empties (R59). -/
def State.endRollCall (s : State) (e : Exchange) : State := s.emptyContext e.source

/-- The window expiry is taken: a roll call ends with no effect; a try concludes NO_REPLY, and a late watch
starts on its station (R45, R48, R59). -/
def State.takeExpiry (s : State) (e : Exchange) : State :=
  if e.source = .rollCall then s.endRollCall e
  else State.concludeTry { s with lateWatch := some e.station } e .noReply none

/-- The outcome of a frame end, by the first condition that holds (R44, R46). -/
def Exchange.judge (e : Exchange) (f : FrameReport) : TryOutcome :=
  if !f.good then .check
  else if f.kind != .reply || f.address != e.station then .wrongSender
  else if f.tag != e.tag then .tagMismatch
  else if e.inCapacity < f.payload.length then .overlength
  else if 2 ≤ f.upper.toNat then .refused
  else if f.upper.toNat = 1 then .warn
  else .success

/-- The reply kept from an outcome at a frame end: the condition of an answered try, and the payload on
success alone (R46). -/
def TryOutcome.keeps (o : TryOutcome) (f : FrameReport) : Option Reply :=
  match o with
  | .success | .warn => some { condition := f.upper, payload := f.payload }
  | .tagMismatch | .overlength | .refused => some { condition := f.upper, payload := [] }
  | .collision | .noReply | .framing | .check | .wrongSender => none

/-! ### Roll-call outcomes (R60, R68 to R74) -/

/-- Some other address that is not ABSENT holds the serial (R70). -/
def State.duplicateSerial (s : State) (a : Address) (serial : Word) : Bool :=
  (List.finRange 62).any fun i =>
    addressAt i != a && (s.stations[i]).state != .absent
      && (s.stations[i]).identity.any (·.serial = serial)

/-- An identity makes a record JOINING: identity stored, next tag 0, miss count 0, and a JOINED entry with
DUPLICATE as the duplicate check finds (R69, R70, R72). -/
def State.join (s : State) (a : Address) (id : Identity) : State :=
  let s := s.setStation a
    { s.station a with state := .joining, identity := some id, nextTag := 0, missCount := 0 }
  s.postStation a 1 (s.duplicateSerial a id.serial)

/-- An identity rejoins a LOST station (R71). -/
def State.rejoin (s : State) (a : Address) (id : Identity) : State :=
  (s.setStation a
    { s.station a with state := .active, identity := some id, nextTag := 0, missCount := 0 }).postStation
    a 2 false

/-- An IDENTITY taken for an address, by the state of its record (R68). -/
def State.takeIdentity (s : State) (a : Address) (id : Identity) : State :=
  let r := s.station a
  match r.state with
  | .absent => s.join a id
  | .lost => if r.identity.any (·.serial = id.serial) then s.rejoin a id else s.join a id
  | .barred | .joining | .active | .suspect => s

/-- The reply to a roll call, as its frame end reports it: an IDENTITY or a CLASH (R60, R74). -/
def State.takeRollReply (s : State) (e : Exchange) (f : FrameReport) : State :=
  if f.good && f.kind = .roll && f.address = e.station && f.payload.length = 9 then
    s.takeIdentity e.station (identityOf f.payload)
  else s.postStation e.station 4 false

/-! ### The receiver's reports (R15, R17, R18, R20) -/

/-- The context is receiving the reply of its try. -/
def State.receiving? (s : State) : Option Exchange :=
  match s.context with
  | none => none
  | some e => if e.state = .receiving then some e else none

/-- A sync arrival: in AWAITING_REPLY it is the reply start; otherwise a late watch takes its frame; otherwise
it begins foreign traffic (R45, R48, R49). -/
def State.syncArrival (s : State) : State :=
  match s.context with
  | some e =>
    if e.state = .awaitingReply then
      { s with context := some { e with state := .receiving, expiry := none }, lateFrame := none }
    else { s with lateFrame := s.lateWatch, lateWatch := none }
  | none => { s with lateFrame := s.lateWatch, lateWatch := none }

/-- A frame abandoned: FRAMING for a try, CLASH for a roll call; a late frame and foreign traffic are
ignored (R47, R48, R49, R60). -/
def State.frameAbandoned (s : State) : State :=
  match s.receiving? with
  | some e =>
    if e.source = .rollCall then (s.postStation e.station 4 false).endRollCall e
    else s.concludeTry e .framing none
  | none => { s with lateFrame := none }

/-- The accounting of a late reply: code 0, index 0, LATE (R152, R155). -/
def State.accountLate (s : State) (a : Address) : State :=
  s.account a FaultKind.lateReply.set { Entry.blank .alert 0 0 with late := true }

/-- A frame end: the try is judged, the roll-call reply evaluated, the late frame accounted when it is good
and the watched station's, or it was foreign traffic (R46, R48, R49, R60). -/
def State.frameEnd (s : State) (f : FrameReport) : State :=
  match s.receiving? with
  | some e =>
    if e.source = .rollCall then (s.takeRollReply e f).endRollCall e
    else s.concludeTry e (e.judge f) ((e.judge f).keeps f)
  | none =>
    let late := s.lateFrame
    let s := { s with lateFrame := none }
    match late with
    | some a => if f.good && f.address = a then s.accountLate a else s
    | none => s

/-- Replacing the receiver. -/
def State.setReceiver (s : State) (rx : Receiver) : State := { s with line := { s.line with rx := rx } }

/-- The frame in the receiver is abandoned: ABANDONING, and the report (R16, R17). -/
def State.abandonFrame (s : State) : State :=
  (s.setReceiver { s.line.rx with state := .abandoning }).frameAbandoned

/-- A good cell taken IN_FRAME: header, payload and check bytes in order; a length above 120 abandons the
frame; the second check byte ends it with the verdict of the CRC (R16, R18). -/
def State.takeFrameByte (s : State) (b : Byte) : State :=
  let rx := s.line.rx
  let next := { rx with count := rx.count + 1, crc := crcByte rx.crc b }
  if rx.count = 0 then s.setReceiver { next with addressKind := b }
  else if rx.count = 1 then s.setReceiver { next with control := b }
  else if rx.count = 2 then
    if Config.maxPayload < b.toNat then (s.setReceiver { next with length := b }).abandonFrame
    else s.setReceiver { next with length := b }
  else if rx.count < 3 + rx.length.toNat then s.setReceiver { next with staging := rx.staging ++ [b] }
  else if rx.count = 3 + rx.length.toNat then
    s.setReceiver { rx with count := rx.count + 1, checkHigh := b }
  else
    (s.setReceiver { rx with state := .idle }).frameEnd (rx.report (rx.checkHigh ++ b == rx.crc))

/-- An expiry that a cell in progress held past its moment is taken at that cell's arrival (R42). DESIGN CHOICE:
one whose moment is the very end of the cell is left to WINDOW_EXPIRY at that moment, so that a start bit of
the same moment can be taken before it, as R45 allows (log entry 28). -/
def State.takeHeldExpiry (s : State) : State :=
  match s.context with
  | some e => if e.state = .awaitingReply && e.expiry.any (· < 0) then s.takeExpiry e else s
  | none => s

/-- A cell handed to the receiver, by its state (R14 to R19). -/
def State.receiveCell (s : State) (cell : Cell) : State :=
  if !s.engine.delimits then s
  else
    match s.line.rx.state, cell with
    | .idle, .good b =>
      if b = Config.syncByte then
        (s.setReceiver { s.line.rx with state := .inFrame, count := 0, crc := crcStart, staging := [] }).syncArrival
      else s.takeHeldExpiry
    | .idle, .bad => s.takeHeldExpiry
    | .inFrame, .good b => s.takeFrameByte b
    | .inFrame, .bad => s.abandonFrame
    | .abandoning, _ => s.takeHeldExpiry

/-! ### The entry to LINE_FAULT (R186) -/

/-- The engine enters LINE_FAULT: the exchange in the context ends LINE_FAULT, the mark want and an owed
selection end, a LINE_FAULT entry is posted and the LINE flag is set (R62, R163, R186). -/
def State.enterLineFault (s : State) (code : BitVec 5) : State :=
  let s := { (s.interrupt .lineFault).dropCycleWork with engine := .lineFault }
  (s.post (Entry.blank .lineFault code s.cycle.number)).raise .line

end Sys2Proof.Machine
end

