-- ==== Sys2Proof/Machine/CycleEvents.lean ====
section
/-! DEFINITION. The events of the cycle: MARK_DUE, MARK_BEGIN, QUIET_WAIT_LIMIT, SLOT_OPPORTUNITY and
OWED_SELECTION (02_the_cycle.md). -/

namespace Sys2Proof.Machine

/-- The walk is closed early: every slot from the walk position on that is enabled and due completes
SKIPPED_CUTOFF in slot order, but for a slot whose exchange is in flight; the walk is finished and the
phase becomes OPEN with no selection owed (R32). -/
def State.closeWalk (s : State) : State :=
  match s.cycle.phase, s.cycle.walk with
  | .cyclic, some start =>
    let inFlight (i : Fin 32) : Bool := s.context.any (·.source = .slot i)
    let skipped :=
      (List.finRange 32).foldl
        (fun t i =>
          if start ≤ i && (s.schedule.activePage[i]).dueIn s.cycle.number.toNat && !(inFlight i) then
            t.slotResult i .skippedCutoff 0 []
          else t)
        s
    { skipped with cycle := { skipped.cycle with walk := none, phase := .opened, owed := false } }
  | _, _ => s

/-- MARK_DUE: the cycle clock reaches P; the mark becomes wanted, an owed selection is dropped and an
unfinished walk is closed (R23, R32). -/
def execMarkDue (s : State) : Answer :=
  if s.dueRuns then
    let s := s.elapse s.dueLeft
    .next
      (State.closeWalk
        { s with cycle := { s.cycle with want := some { cause := .due, age := 0 }, owed := false } })
  else .next s

/-- A mark is late when its first attempt begins later than the moment it fell due (R23). -/
def MarkWant.late (w : MarkWant) : Bool := w.cause = .due && decide (0 < w.age)

/-- A mark's transmission begins, in the order of R24: the pending swap, the cycle number, the
roll-call-done flag, the frame with the new number and the page now active, then MARK, and NOTIFY when an
entry is queued. The clock restarts, the phase is MARK, the walk is at slot 0 and the want ends; the
late-mark count rises for a late mark (R21, R23); the engine is in RUNNING (R181). -/
def State.beginMark (s : State) (want : MarkWant) : State :=
  let s := s.applyPendingSwap
  let number := s.cycle.number + 1
  let begun :=
    { s with
      engine := .running
      cycle := { s.cycle with
        clock := 0
        number := number
        oldNumber := some s.cycle.number
        lateMarks := if want.late then min 65535 (s.cycle.lateMarks + 1) else s.cycle.lateMarks
        phase := .mark
        want := none
        walk := some 0
        owed := false
        rollDone := false } }
  let sent := (begun.transmit .mark (markFrame number s.schedule.active)).raise .mark
  if sent.queue.entries.isEmpty then sent else sent.raise .notify

/-- MARK_BEGIN (R24). -/
def execMarkBegin (s : State) : Answer :=
  match s.cycle.want with
  | none => .next s
  | some w => if s.markCanBegin then .next (s.beginMark w) else .next s

/-- QUIET_WAIT_LIMIT: a mark want has lasted P bit times with no mark begun (R27, R186). -/
def execQuietWaitLimit (s : State) : Answer :=
  match s.waitLeft? with
  | none => .next s
  | some k => .next ((s.elapse k).enterLineFault 2)

/-- The out bytes that a slot's request will carry: none when its hold flag is set (R28, R102). -/
def State.slotOut (s : State) (i : Fin 32) : Nat :=
  if s.schedule.held i then 0 else (s.schedule.activePage[i]).outLength.toNat

/-- The tests of a slot at its transmit opportunity, in order: the result with which it completes without
bus time, if any (R31). -/
def State.slotVerdict (s : State) (i : Fin 32) : Option Result :=
  let slot := s.schedule.activePage[i]
  let station := s.station slot.station
  if !station.state.inService then some station.state.outResult
  else if station.maxPayload < s.slotOut i then some .tooLong
  else if !(s.fits (s.slotBudget slot (s.slotOut i))) then some .skippedCutoff
  else none

/-- A slot at its transmit opportunity: it completes without bus time and the walk moves on, or its one try
begins (R31). -/
def State.runSlot (s : State) (i : Fin 32) : State :=
  match s.slotVerdict i with
  | some result => (s.slotResult i result 0 []).walkFrom (i.val + 1)
  | none =>
    State.beginTry { s with cycle := { s.cycle with walk := some i } } (s.slotExchange i)

/-- SLOT_OPPORTUNITY: the walk's slot at its transmit opportunity. A slot that is not enabled or not due is
passed over (R31). DESIGN CHOICE: one event takes one slot (log entry 10). -/
def execSlotOpportunity (s : State) : Answer :=
  match s.cycle.walk with
  | none => .next s
  | some start =>
    if s.slotCanRun then
      match s.dueSlotFrom start.val with
      | some i => .next (s.runSlot i)
      | none => .next (s.walkFrom start.val)
    else .next s

/-- A ring's staged record is chosen: it leaves staging and its exchange begins (R34, R123). -/
def State.beginRecord (s : State) (r : Ring) (record : RingRecord) : State :=
  (s.setRing r { s.ringUnit r with stage := .inExchange }).beginTry (record.exchange r)

/-- The offer of a ring's staged record: completed by its tests, chosen, or not fitting and left staged. The
flag says whether it was chosen (R34, R35, R123). -/
def State.offer (s : State) (r : Ring) : State × Bool :=
  let x := s.ringUnit r
  match x.stage, x.current with
  | .staged, some record =>
    match s.recordVerdict record with
    | some result => (s.completeRecord r record result none, false)
    | none => if s.fits (s.recordBudget record) then (s.beginRecord r record, true) else (s, false)
  | _, _ => (s, false)

/-- A roll call is due in the current cycle and not yet done (R36). -/
def State.rollDue (s : State) : Bool :=
  s.settings.rollEnable && !s.cycle.rollDone && s.cycle.number.toNat % s.settings.rollInterval == 0

/-- A record is a roll-call target: search flag set, ABSENT or LOST (R37). -/
def Station.isTarget (r : Station) : Bool := r.search && (r.state = .absent || r.state = .lost)

/-- The target search: upward from the pointer, wrapping from 62 to 1, each address once (R37). -/
def State.rollTarget (s : State) : Option Address :=
  (List.range 62).findSome? fun k =>
    let a : Address := BitVec.ofNat 6 ((s.cycle.rollPointer.toNat - 1 + k) % 62 + 1)
    if (s.station a).isTarget then some a else none

/-- The roll call of a selection (R36). -/
def State.considerRollCall (s : State) : State :=
  if !s.rollDue then s
  else if !(s.fits (rollBudget s.settings.rollWindow)) then s
  else
    match s.rollTarget with
    | none => { s with cycle := { s.cycle with rollDone := true } }
    | some a =>
      State.beginTry
        { s with
          cycle := { s.cycle with rollDone := true, rollPointer := if a = 62 then 1 else a + 1 } }
        (Exchange.enter .rollCall a)

/-- The offer of the ring completes its staged record without bus time (R35). -/
def State.offerCompletes (s : State) (r : Ring) : Bool :=
  match (s.ringUnit r).stage, (s.ringUnit r).current with
  | .staged, some record => (s.recordVerdict record).isSome
  | _, _ => false

/-- The offers to both rings, one after the other, where neither is chosen (R35). -/
def State.offerBoth (s : State) (first : Ring) : State := ((s.offer first).1.offer (otherRing first)).1

/-- The open-phase choice: ring U's staged record, ring N's, a roll call, or nothing (R34). Where both rings' records
complete by their tests, both issue their STATUS_WRITE at this one moment, and R136 lets either issue be taken
first: the order is a FREE VALUE, and nothing else depends on it (log entry 30). -/
def State.select (s : State) : State :=
  let s := { s with cycle := { s.cycle with owed := false } }
  if s.offerCompletes .u && s.offerCompletes .n then
    (State.offerBoth { s with orderIndex := s.orderIndex + 1 } s.issuesFirst).considerRollCall
  else
    let (s, chosen) := s.offer .u
    if chosen then s
    else
      let (s, chosen) := s.offer .n
      if chosen then s else s.considerRollCall

/-- OWED_SELECTION (R33, R34). -/
def execOwedSelection (s : State) : Answer := if s.selectionCanRun then .next s.select else .next s

end Sys2Proof.Machine
end

