-- ==== Sys2Proof/Machine/EngineCommands.lean ====
section
/-! DEFINITION. The engine commands START, STOP, ABORT and SOFT_RESET, SWAP, QUEUE_CLEAR, and a COMMAND write
of an unknown code (10_engine_states_and_commands.md). In INIT every command write is ignored (R176). -/

namespace Sys2Proof.Machine

/-- START refused with REFUSED_INVALID, its reason and slot index (R179, R180). -/
def State.refusedInvalid (s : State) (code arg : Byte) (reason : Invalid) (index : Byte) : State :=
  s.setDecision code arg .refusedInvalid reason.code index

/-- The decision of START, in order (R180). -/
def State.start (s : State) (arg : Byte) : State :=
  if s.engine ≠ .halted then s.refusedState 1 arg s.engine.code
  else if s.settings.period < Config.firstOpportunity + s.settings.guard then s.refusedInvalid 1 arg .period 0
  else
    match s.validate s.schedule.activePage with
    | some (reason, index) => s.refusedInvalid 1 arg reason index
    | none =>
      State.done
        { s with
          engine := .starting
          cycle := { s.cycle with phase := .mark, want := some { cause := .first, age := 0 } } }
        1 arg

/-- START (R180). -/
def execStart (arg : Byte) (s : State) : Answer := s.hostAccess (·.start arg)

/-- Work is in flight: an exchange in the context, or a mark in transmission (R183). -/
def State.workInFlight (s : State) : Bool := s.context.isSome || s.line.tx.any (·.user = .mark)

/-- Leaving LINE_FAULT for HALTED: the collision streak returns to 0 (R13, R187). -/
def State.leaveLineFault (s : State) : State :=
  let s := s.enterHalted
  { s with line := { s.line with streak := 0 } }

/-- The decision of STOP, by the engine state (R183). -/
def State.stop (s : State) (arg : Byte) : State :=
  match s.engine with
  | .running =>
    if s.workInFlight then State.accepted { s.dropCycleWork with engine := .stopping } 2 arg
    else s.enterHalted.done 2 arg
  | .starting => s.enterHalted.done 2 arg
  | .lineFault => s.leaveLineFault.done 2 arg
  | .init | .halted | .stopping => s.refusedState 2 arg s.engine.code

/-- STOP (R183). -/
def execStop (arg : Byte) (s : State) : Answer := s.hostAccess (·.stop arg)

/-- The decision of ABORT: any transmission is cut, the exchange ends ABORTED and the engine enters HALTED
(R185); from LINE_FAULT the collision streak returns to 0 (R187). -/
def State.abort (s : State) (arg : Byte) : State :=
  match s.engine with
  | .starting | .running | .stopping => ((s.cutByEngine.interrupt .aborted).enterHalted).done 3 arg
  | .lineFault => ((s.cutByEngine.interrupt .aborted).leaveLineFault).done 3 arg
  | .init | .halted => s.refusedState 3 arg s.engine.code

/-- ABORT (R185). -/
def execAbort (arg : Byte) (s : State) : Answer := s.hostAccess (·.abort arg)

/-- A ring after soft reset: OFF, with BASE and LENGTH kept (R135). -/
def RingUnit.softReset (x : RingUnit) : RingUnit :=
  { RingUnit.reset with base := x.base, length := x.length }

/-- The request queue after soft reset: queued requests are dropped, and the begun one runs on with its
outcome discarded, alone in the queue (R136, R145). -/
def softResetRequests (requests : List Request) : List Request :=
  (dropRequests (fun _ => true) requests).map fun q => { q with sole := true }

/-- SOFT_RESET, in the order of R189. DEDUCED: it clears every flag of INT_PENDING, NOTIFY among them (R172,
R175, R189; log entry 26 on R171). DEDUCED: it sets the walk position to 0, as step 3 of R189 and the table of
state of 02_the_cycle.md say, where the last paragraph of R32 has a SOFT_RESET leave the walk where it stands
(log entry 29); no slot completes by it. -/
def State.softReset (s : State) (arg : Byte) : State :=
  let s := s.cutByEngine
  State.done
    { s with
      context := none
      engine := .halted
      line := { s.line with rx := .reset, streak := 0 }
      lateWatch := none
      lateFrame := none
      cycle := .reset
      stations := Vector.replicate 62 .reset
      ringU := s.ringU.softReset
      ringN := s.ringN.softReset
      requests := softResetRequests s.requests
      schedule := { s.schedule with
        swapPending := false, hold := 0, status := Vector.replicate 32 none }
      queue := { entries := [], overflow := 0 }
      host := { s.host with intPending := 0 } }
    4 arg

/-- SOFT_RESET (R189). -/
def execSoftReset (arg : Byte) (s : State) : Answer := s.hostAccess (·.softReset arg)

/-- The decision of SWAP, in order (R97). -/
def State.swap (s : State) (arg : Byte) : State :=
  if s.schedule.swapPending then s.refusedState 5 arg 0
  else
    match s.validate s.schedule.editPage with
    | some (reason, index) => s.refusedInvalid 5 arg reason index
    | none =>
      if s.engine = .halted then s.applySwap.done 5 arg
      else State.accepted { s with schedule := { s.schedule with swapPending := true } } 5 arg

/-- SWAP (R97). -/
def execSwap (arg : Byte) (s : State) : Answer := s.hostAccess (·.swap arg)

/-- QUEUE_CLEAR: the queue is emptied and the overflow count is 0 (R170). -/
def execQueueClear (arg : Byte) (s : State) : Answer :=
  s.hostAccess fun s => State.done { s with queue := { entries := [], overflow := 0 } } 13 arg

/-- A COMMAND write of code 0 or above 13: refused with REFUSED_ARGUMENT (R178). -/
def execCommandCodeUnknown (code arg : Byte) (s : State) : Answer :=
  if knownCode code then .refused (.illFormed "COMMAND_CODE_UNKNOWN")
  else s.hostAccess (·.refusedArgument code arg)

end Sys2Proof.Machine
end

