-- ==== Sys2Proof/Machine/ExchangeEvents.lean ====
section
/-! DEFINITION. The events of the exchange context and of the memory port: WINDOW_EXPIRY, RETRY_OPPORTUNITY
and MEMORY_TRANSFER_ANSWER (03_exchanges.md, 07_the_memory_master.md). -/

namespace Sys2Proof.Machine

/-- WINDOW_EXPIRY: the reply window expires with no cell in progress; one in progress holds the expiry to
its arrival (R42, R45). -/
def execWindowExpiry (s : State) : Answer :=
  match s.windowLeft? with
  | none => .next s
  | some k =>
    let s := s.elapse k
    match s.context with
    | none => .next s
    | some e => .next (s.takeExpiry e)

/-- The tests of an owed retry at its opportunity (R53). -/
def State.retryMayBegin (s : State) (e : Exchange) : Bool :=
  s.engine = .running && (s.station e.station).state.inService
    && s.fits (s.budgetTo e.station e.outData.length e.inCapacity)

/-- RETRY_OPPORTUNITY: the retry begins as a try, or the record returns to staging (R53). -/
def execRetryOpportunity (s : State) : Answer :=
  match s.context with
  | none => .next s
  | some e =>
    if s.retryCanRun then
      if s.retryMayBegin e then .next (s.beginTry e) else .next (s.returnToStaging e)
    else .next s

/-- MEMORY_TRANSFER_ANSWER (R138). DESIGN CHOICE: the answer brings the word read, host memory being outside
(log entry 12). -/
def execMemoryTransferAnswer (success : Bool) (word : Word) (s : State) : Answer :=
  .next (s.transferAnswered success word)

end Sys2Proof.Machine
end

