-- ==== Sys2Proof/Machine/LineEvents.lean ====
section
/-! DEFINITION. The events of the trunk line: START_BIT, CELL_ARRIVAL, GAP_LIMIT_EXPIRY, LINE_QUIET,
ECHO_MISMATCH and TRANSMISSION_COMPLETE (01_the_trunk_line.md). An event that falls at a stated moment
takes the time up to that moment with it (DESIGN CHOICE, log entry 4), and one whose condition does not hold
changes nothing (DESIGN CHOICE, log entry 7). -/

namespace Sys2Proof.Machine

/-- A start bit is recognised: the idle run returns to 0 and a cell is in progress. In INIT no cell is
recognised; after a bad cell none is until the line has been at 1 for a bit time; within a cell there is
none (R2, R3). The start bits of the part's own cells lie within its transmission. -/
def State.startBit (s : State) : State :=
  if s.engine != .init && s.line.atRest && s.line.rest != .heldAfterBadCell then
    { s with line := { s.line with idleRun := 0, rest := .resting, cell := some 0 } }
  else s

/-- The end of a cell in progress: the idle run counts from here, or the line is held at 0 after a bad cell
(R2, R3). -/
def State.endCell (s : State) (cell : Cell) : State :=
  { s with
    line := { s.line with
      cell := none, idleRun := 0,
      rest := match cell with
        | .good _ => .resting
        | .bad => .heldAfterBadCell } }

/-- A cell is taken at the end of its stop bit time (R2). With no START_BIT before it, its start bit is
taken first (log entry 6). While the part transmits, the cells it reads back serve only the echo check
(R14). -/
def State.cellArrives (s : State) (cell : Cell) : State :=
  let s := if s.line.cell.isNone then s.startBit else s
  match s.line.cell with
  | none => s
  | some age => ((s.elapse (cellLeft age)).endCell cell).receiveCell cell

/-- START_BIT (R2). -/
def execStartBit (s : State) : Answer := .next s.startBit

/-- CELL_ARRIVAL (R2). -/
def execCellArrival (cell : Cell) (s : State) : Answer :=
  if s.line.tx.isSome then .next s else .next (s.cellArrives cell)

/-- GAP_LIMIT_EXPIRY: 20 bit times after a cell of a frame with no start bit, the frame is abandoned
(R17). -/
def execGapLimitExpiry (s : State) : Answer :=
  if s.gapRuns then .next (s.elapse s.gapLeft).abandonFrame else .next s

/-- The idle run stands at 24; a receiver in ABANDONING returns to IDLE (R3, R19). -/
def State.becomeQuiet (s : State) : State :=
  { s with
    line := { s.line with
      idleRun := Config.quietRun, rest := .resting,
      rx := { s.line.rx with
        state := if s.line.rx.state = .abandoning then .idle else s.line.rx.state } } }

/-- LINE_QUIET (R3, R19). -/
def execLineQuiet (s : State) : Answer :=
  if s.quietRuns then .next (s.elapse s.quietLeft).becomeQuiet else .next s

/-- The line side of a cut by echo mismatch: the transmitter becomes IDLE, the collision streak advances
and the receiver enters ABANDONING (R10, R13). DEDUCED: the line is held until it is next at rest (R3; log
entry 22). -/
def State.cutByEcho (s : State) : State :=
  { s with
    line := { s.line with
      tx := none, idleRun := 0, rest := .heldAfterCut, cell := none,
      streak := min Config.streakLimit (s.line.streak + 1),
      rx := { s.line.rx with state := .abandoning } } }

/-- A mark cut by echo mismatch: the cycle number returns to its old value; the fourth cut in a row is the
line fault; otherwise the mark is wanted again from the cut, or in STOPPING the engine enters HALTED (R26,
R184, R186). -/
def State.markCut (s : State) : State :=
  let s :=
    { s with
      cycle := { s.cycle with number := s.cycle.oldNumber.getD s.cycle.number, oldNumber := none } }
  if Config.streakLimit ≤ s.line.streak then s.enterLineFault 1
  else
    match s.engine with
    | .running => { s with cycle := { s.cycle with want := some { cause := .cut, age := 0 } } }
    | .stopping => s.enterHalted
    | .init | .halted | .starting | .lineFault => s

/-- A try cut by echo mismatch: it concludes COLLISION (R43); a roll call ends with no effect (R59); at the
fourth cut in a row the exchange ends LINE_FAULT with the COLLISION in its causes (R43, R62). -/
def State.tryCut (s : State) : State :=
  match s.context with
  | none => if Config.streakLimit ≤ s.line.streak then s.enterLineFault 1 else s
  | some e =>
    if Config.streakLimit ≤ s.line.streak then
      let ended := if e.source = .rollCall then e else e.concluded .collision none
      ({ s with context := some ended }).enterLineFault 1
    else if e.source = .rollCall then s.endRollCall e
    else s.concludeTry e .collision none

/-- ECHO_MISMATCH (R10). -/
def execEchoMismatch (s : State) : Answer :=
  match s.line.tx with
  | none => .next s
  | some t =>
    match t.user with
    | .mark => .next s.cutByEcho.markCut
    | .attempt => .next s.cutByEcho.tryCut

/-- The line side of a completed transmission: the transmitter becomes IDLE, the streak returns to 0 and
the idle run counts from 0 (R11). -/
def State.txDone (s : State) : State :=
  { s with line := { s.line with tx := none, idleRun := 0, rest := .resting, cell := none, streak := 0 } }

/-- A mark completes: it stands, and the phase becomes CYCLIC with the walk at slot 0; in STOPPING the
engine enters HALTED before any slot is taken (R25, R184). -/
def State.markComplete (s : State) : State :=
  let s := { s with cycle := { s.cycle with oldNumber := none, phase := .cyclic, walk := some 0 } }
  match s.engine with
  | .running => s.walkFrom 0
  | .stopping => s.enterHalted
  | .init | .halted | .starting | .lineFault => s

/-- The transmission of a try completes: a broadcast ends SENT (R58); otherwise the reply window starts
(R42, R59). -/
def State.tryComplete (s : State) : State :=
  match s.context with
  | none => s
  | some e =>
    if e.source != .rollCall && e.station = broadcastAddress then s.endExchange e .sent none
    else { s with context := some { e with state := .awaitingReply, expiry := some (e.window : Int) } }

/-- TRANSMISSION_COMPLETE, at the end of the last stop bit (R11). -/
def execTransmissionComplete (s : State) : Answer :=
  match s.line.tx with
  | none => .next s
  | some t =>
    match t.user with
    | .mark => .next (s.elapse t.left).txDone.markComplete
    | .attempt => .next (s.elapse t.left).txDone.tryComplete

end Sys2Proof.Machine
end

