-- ==== Sys2Proof/Machine/Resets.lean ====
section
/-! DEFINITION. The RESET input and INIT (R176). -/

namespace Sys2Proof.Machine

/-- HARDWARE_RESET: every piece of state takes its hardware-reset value and the engine is in INIT; a transfer
in progress on the memory port is abandoned with the emptied queue (R176, R146). The MODEL's own fields,
the queue of commands and the indexes of free values, go on. DEDUCED: every flag of INT_PENDING is cleared,
NOTIFY among them (R172, R175; log entry 26 on R171). -/
def execHardwareReset (s : State) : Answer :=
  .next
    { State.reset with
      line := { LineUnit.reset with freeIndex := s.line.freeIndex }
      orderIndex := s.orderIndex
      pending := s.pending }

/-- RESET_RELEASED: the engine stays in INIT and clears the exchange memory and both pages (R176). -/
def execResetReleased (s : State) : Answer :=
  if s.resetAsserted then .next { s with resetAsserted := false } else .next s

/-- INIT_CLEARING_FINISHED: every byte of the exchange memory and every field of every slot is 0, and the
engine enters HALTED with no flag set, no swap and no entry (R176). DESIGN CHOICE: its time is not counted
(log entry 15). -/
def execInitClearingFinished (s : State) : Answer :=
  if s.engine = .init && !s.resetAsserted then
    .next
      { s with
        engine := .halted
        exmem := []
        schedule := { s.schedule with
          page0 := Vector.replicate 32 .reset, page1 := Vector.replicate 32 .reset } }
  else .next s

end Sys2Proof.Machine
end

