-- ==== Sys2Proof/Machine/RingCommands.lean ====
section
/-! DEFINITION. The ring commands RING_ENABLE, RING_RESUME and RING_RESET, and the writes of POST, ring
STATUS, BASE and LENGTH (06_acyclic_rings.md). In INIT every host access is ignored (R176). -/

namespace Sys2Proof.Machine

/-- A ring command: an argument other than 0 or 1 is refused (06_acyclic_rings.md, Ring commands). -/
def State.ringCommand (s : State) (code arg : Byte) (effect : Ring → State) : State :=
  match ringOfArg arg with
  | none => s.refusedArgument code arg
  | some r => effect r

/-- A length that RING_ENABLE takes (R131). -/
def legalLength (n : Nat) : Bool := 4 ≤ n && n ≤ 256

/-- RING_ENABLE of a ring (R131). -/
def State.enableRing (s : State) (arg : Byte) (r : Ring) : State :=
  let x := s.ringUnit r
  if x.state ≠ .off then s.refusedState 10 arg x.state.code
  else if !legalLength x.length then s.setDecision 10 arg .refusedInvalid 0 (BitVec.ofNat 8 x.length)
  else
    (((s.setRing r
      { x with state := .active, head := 0, pending := 0, reason := .none, stage := .none }).tryFetch r)).done
      10 arg

/-- RING_ENABLE (R131). -/
def execRingEnable (arg : Byte) (s : State) : Answer :=
  s.hostAccess fun s => s.ringCommand 10 arg (s.enableRing arg)

/-- RING_RESUME of a ring (R132). -/
def State.resumeRing (s : State) (arg : Byte) (r : Ring) : State :=
  let x := s.ringUnit r
  if x.state ≠ .halted then s.refusedState 11 arg x.state.code
  else (((s.setRing r { x with state := .active, reason := .none }).tryFetch r)).done 11 arg

/-- RING_RESUME (R132). -/
def execRingResume (arg : Byte) (s : State) : Answer :=
  s.hostAccess fun s => s.ringCommand 11 arg (s.resumeRing arg)

/-- The exchange of a ring in the context is orphaned; one waiting in ENDING for a retry ends at once, with
supervision and accounting and its result discarded (R64, R134). -/
def State.orphan (s : State) (r : Ring) : State :=
  match s.context with
  | none => s
  | some e =>
    match e.source with
    | .slot _ => s
    | .rollCall => s
    | .ring q _ =>
      if q = r then
        let orphan := { e with orphaned := true }
        if e.state = .ending then
          s.endExchange orphan ((e.last.map (·.result)).getD .noReply) e.reply
        else { s with context := some orphan }
      else s

/-- RING_RESET of a ring: OFF, BASE and LENGTH kept, its current record given up and its requests dropped or
discarded, its exchange orphaned (R133, R134, R144). -/
def State.resetRing (s : State) (r : Ring) : State :=
  let x := s.ringUnit r
  let s := s.setRing r { RingUnit.reset with base := x.base, length := x.length }
  State.orphan { s with requests := dropRequests (fun q => q.ring = r) s.requests } r

/-- RING_RESET (R133). -/
def execRingReset (arg : Byte) (s : State) : Answer :=
  s.hostAccess fun s => s.ringCommand 12 arg fun r => (s.resetRing r).done 12 arg

/-- A post of n records (R116). -/
def State.postRecords (s : State) (r : Ring) (n : Nat) : State :=
  let x := s.ringUnit r
  if x.state = .off then s.misuse .writeRefused
  else if n = 0 then s
  else if x.length < x.pending + n then s.setRing r { x with postRefused := true }
  else (s.setRing r { x with pending := x.pending + n }).tryFetch r

/-- POST (R116). -/
def execPost (ring : Ring) (data : Word) (s : State) : Answer :=
  s.hostAccess (·.postRecords ring (fieldOf data 0 8))

/-- RING_STATUS_WRITE: bit 5 at 1 clears POST_REFUSED (R117). -/
def execRingStatusWrite (ring : Ring) (data : Word) (s : State) : Answer :=
  s.hostAccess fun s =>
    if data.getLsbD 5 then s.setRing ring { s.ringUnit ring with postRefused := false } else s

/-- A write of BASE or LENGTH, taken while the ring is OFF and otherwise refused (R112). -/
def State.ringConfigWrite (s : State) (r : Ring) (change : RingUnit → RingUnit) : State :=
  let x := s.ringUnit r
  if x.state = .off then s.setRing r (change x) else s.misuse .writeRefused

/-- BASE_WRITE: the address rounded down to a multiple of 32 (R112). -/
def execBaseWrite (ring : Ring) (data : Word) (s : State) : Answer :=
  s.hostAccess (·.ringConfigWrite ring fun x => { x with base := data &&& ~~~31#32 })

/-- LENGTH_WRITE: 0 to 511, stored as written (R112). -/
def execLengthWrite (ring : Ring) (data : Word) (s : State) : Answer :=
  s.hostAccess (·.ringConfigWrite ring fun x => { x with length := fieldOf data 0 9 })

end Sys2Proof.Machine
end

