-- ==== Sys2Proof/Machine/ScheduleWrites.lean ====
section
/-! DEFINITION. Writes of HOLD_MASK, of the slot, station and exchange-memory registers, and the read of
EXMEM_DATA (05_schedule_pages_and_the_exchange_memory.md, R86, R87). In INIT they are ignored, and the read
returns 0 (R108, R176). -/

namespace Sys2Proof.Machine

/-- HOLD_MASK_WRITE: all 32 hold flags (R101). -/
def execHoldMaskWrite (data : Word) (s : State) : Answer :=
  s.hostAccess fun s => { s with schedule := { s.schedule with hold := data } }

/-- SLOT_SELECT_WRITE: the slot index in bits 4..0 and the read view in bit 8 (R92). -/
def execSlotSelectWrite (data : Word) (s : State) : Answer :=
  s.hostAccess fun s =>
    { s with
      schedule := { s.schedule with
        select := (data.extractLsb' 0 5).toFin
        view := if data.getLsbD 8 then .active else .edit } }

/-- The slot fields that a slot register holds, replaced by a written word (R93; SLOT_STATION, SLOT_OUT and
SLOT_IN of the register fields). -/
def Slot.written (x : Slot) (register : SlotRegister) (data : Word) : Slot :=
  match register with
  | .station =>
    { x with
      station := data.extractLsb' 0 6
      function := data.extractLsb' 8 4
      rate := data.extractLsb' 16 5
      phase := data.extractLsb' 24 4
      report := .ofCode (fieldOf data 28 2)
      enable := data.getLsbD 31 }
  | .outArea => { x with outOffset := data.extractLsb' 0 12, outLength := data.extractLsb' 16 8 }
  | .inArea => { x with inOffset := data.extractLsb' 0 12, inCapacity := data.extractLsb' 16 8 }

/-- The write stores ALWAYS for the fourth report mode code (R89). -/
def reportClamped (register : SlotRegister) (data : Word) : Bool :=
  match register with
  | .station => fieldOf data 28 2 == 3
  | .outArea => false
  | .inArea => false

/-- SLOT_REGISTER_WRITE: the selected slot of the edit page; ignored with WRITE_REFUSED while a swap is
pending (R93, R89). -/
def execSlotRegisterWrite (register : SlotRegister) (data : Word) (s : State) : Answer :=
  s.hostAccess fun s =>
    if s.schedule.swapPending then s.misuse .writeRefused
    else
      let i := s.schedule.select
      State.clampedIf
        { s with schedule := s.schedule.setEditSlot i (s.schedule.editPage[i].written register data) }
        (reportClamped register data)

/-- STATION_SELECT_WRITE: 1 to 62, clamped (R86). -/
def execStationSelectWrite (data : Word) (s : State) : Answer :=
  s.hostAccess fun s =>
    let a := clampField 1 62 (fieldOf data 0 8)
    State.clampedIf { s with stationSelect := BitVec.ofNat 6 a.1 } a.2

/-- STATION_CONFIG_WRITE: W clamped to 16 to 1,023, the alert mask and the search flag of the selected
record (R87). -/
def execStationConfigWrite (data : Word) (s : State) : Answer :=
  s.hostAccess fun s =>
    let w := clampField 16 1023 (fieldOf data 0 11)
    State.clampedIf
      (s.setStation s.stationSelect
        { s.station s.stationSelect with
          window := w.1, alertMask := data.extractLsb' 16 10, search := data.getLsbD 31 })
      w.2

/-- EXMEM_ADDR_WRITE: modulo 4096, rounded down to a multiple of 4 (R107). -/
def execExmemAddrWrite (data : Word) (s : State) : Answer :=
  s.hostAccess fun s => { s with exmemAddr := data.extractLsb' 0 12 &&& ~~~3#12 }

/-- EXMEM_DATA_READ: the word at EXMEM_ADDR goes to the host, and EXMEM_ADDR advances by 4, wrapping to 0;
in INIT the read returns 0 and does not advance (R108). DESIGN CHOICE: the word stands in `readData` (log
entry 13). -/
def execExmemDataRead (s : State) : Answer :=
  if s.engine = .init then .next { s with host := { s.host with readData := 0 } }
  else
    .next
      { s with
        host := { s.host with readData := s.exmem.wordAt s.exmemAddr.toNat }
        exmemAddr := s.exmemAddr + 4 }

/-- EXMEM_DATA_WRITE: the word is stored at EXMEM_ADDR, least significant byte first, and EXMEM_ADDR
advances by 4, wrapping to 0 (R108). -/
def execExmemDataWrite (data : Word) (s : State) : Answer :=
  s.hostAccess fun s =>
    { s with
      exmem := s.exmem.setBytes s.exmemAddr.toNat (wordBytes data)
      exmemAddr := s.exmemAddr + 4 }

end Sys2Proof.Machine
end

