-- ==== Sys2Proof/Machine/StationCommands.lean ====
section
/-! DEFINITION. The station commands ADMIT, BAR, FORGET and CLEAR_STICKY (04_the_station_table.md). In INIT
every command write is ignored (R176). -/

namespace Sys2Proof.Machine

/-- A station argument is in range: 1 to 62 (R80). -/
def stationArg (arg : Byte) : Bool := 1 ≤ arg.toNat && arg.toNat ≤ 62

/-- The address of a station argument. -/
def stationOfArg (arg : Byte) : Address := arg.extractLsb' 0 6

/-- A station command that a state of the station accepts: refused for an argument out of range, refused
with the station's state otherwise, or it acts at once and shows DONE (R80). -/
def State.stationCommand (s : State) (code arg : Byte) (accepts : StationState → Bool)
    (act : Station → Station) : State :=
  if !stationArg arg then s.refusedArgument code arg
  else
    let a := stationOfArg arg
    let r := s.station a
    if accepts r.state then (s.setStation a (act r)).done code arg
    else s.refusedState code arg r.state.code

/-- ADMIT: JOINING becomes ACTIVE with next tag 0 and miss count 0 (R81). -/
def execAdmit (arg : Byte) (s : State) : Answer :=
  s.hostAccess (·.stationCommand 6 arg (fun x => x = .joining)
    (fun r => { r with state := .active, nextTag := 0, missCount := 0 }))

/-- The states BAR accepts (R82). -/
def StationState.mayBeBarred : StationState → Bool
  | .joining | .active | .suspect | .lost => true
  | .absent | .barred => false

/-- BAR: BARRED with miss count 0 (R82). -/
def execBar (arg : Byte) (s : State) : Answer :=
  s.hostAccess (·.stationCommand 7 arg StationState.mayBeBarred
    (fun r => { r with state := .barred, missCount := 0 }))

/-- FORGET, in every state: ABSENT, with no identity, miss count 0, next tag 0 and an empty sticky set
(R83). -/
def execForget (arg : Byte) (s : State) : Answer :=
  s.hostAccess (·.stationCommand 8 arg (fun _ => true)
    (fun r => { r with state := .absent, identity := none, missCount := 0, nextTag := 0, sticky := 0 }))

/-- Every sticky set emptied (R84). -/
def State.clearAllSticky (s : State) : State :=
  { s with stations := Vector.ofFn fun i => { s.stations[i] with sticky := 0 } }

/-- CLEAR_STICKY: one station, or all for argument 0 (R84). -/
def execClearSticky (arg : Byte) (s : State) : Answer :=
  s.hostAccess fun s =>
    if arg = 0 then s.clearAllSticky.done 9 arg
    else s.stationCommand 9 arg (fun _ => true) (fun r => { r with sticky := 0 })

end Sys2Proof.Machine
end

