-- ==== Sys2Proof/Machine/WindowWrites.lean ====
section
/-! DEFINITION. Writes of QUEUE_POP, INT_PENDING, INT_ENABLE and WINDOW_STATUS, narrow writes, and writes
that reach no register (09_the_completion_queue_and_the_interrupt_line.md, R193, R194). In INIT they are
ignored with no flag (R176). -/

namespace Sys2Proof.Machine

/-- QUEUE_POP: the oldest entry is removed; an empty queue is left as it is. The written value is not read
(R167). -/
def execQueuePop (_data : Word) (s : State) : Answer :=
  s.hostAccess fun s => { s with queue := { s.queue with entries := s.queue.entries.tail } }

/-- INT_PENDING_WRITE: each flag written with 1 is cleared (R173). -/
def execIntPendingWrite (data : Word) (s : State) : Answer :=
  s.hostAccess fun s =>
    { s with host := { s.host with intPending := s.host.intPending &&& ~~~(data.extractLsb' 0 7) } }

/-- INT_ENABLE_WRITE: all seven enables are replaced (R174). -/
def execIntEnableWrite (data : Word) (s : State) : Answer :=
  s.hostAccess fun s => { s with host := { s.host with intEnable := data.extractLsb' 0 7 } }

/-- WINDOW_STATUS_WRITE: each flag written with 1 is cleared (R193). -/
def execWindowStatusWrite (data : Word) (s : State) : Answer :=
  s.hostAccess fun s =>
    { s with host := { s.host with windowStatus := s.host.windowStatus &&& ~~~(data.extractLsb' 0 3) } }

/-- NARROW_WRITE (ill-formed terms: log entry 16): ignored, with NARROW_WRITE set (R194). -/
def execNarrowWrite (offset : Byte) (enables : BitVec 4) (data : Word) (s : State) : Answer :=
  if (Instr.narrowWrite offset enables data).wellFormed then s.hostAccess (·.misuse .narrowWrite)
  else .refused (.illFormed "NARROW_WRITE")

/-- IGNORED_REGISTER_WRITE: ignored with no flag (R194). -/
def execIgnoredRegisterWrite (offset : Byte) (data : Word) (s : State) : Answer :=
  if (Instr.ignoredRegisterWrite offset data).wellFormed then .next s
  else .refused (.illFormed "IGNORED_REGISTER_WRITE")

end Sys2Proof.Machine
end

