-- ==== Sys2Proof/Machine/Dispatch.lean ====
section
/-! DEFINITION. The commands and their meanings, one arm per row of spec/opcode_table.json. -/

namespace Sys2Proof.Machine

def exec (i : Instr) (s : State) : Host.Outcome State Fault Refusal :=
  match i with
  | .hardwareReset => Sys2Proof.Machine.execHardwareReset s
  | .initClearingFinished => Sys2Proof.Machine.execInitClearingFinished s
  | .cellArrival cell => Sys2Proof.Machine.execCellArrival cell s
  | .gapLimitExpiry => Sys2Proof.Machine.execGapLimitExpiry s
  | .lineQuiet => Sys2Proof.Machine.execLineQuiet s
  | .echoMismatch => Sys2Proof.Machine.execEchoMismatch s
  | .transmissionComplete => Sys2Proof.Machine.execTransmissionComplete s
  | .markDue => Sys2Proof.Machine.execMarkDue s
  | .markBegin => Sys2Proof.Machine.execMarkBegin s
  | .quietWaitLimit => Sys2Proof.Machine.execQuietWaitLimit s
  | .slotOpportunity => Sys2Proof.Machine.execSlotOpportunity s
  | .owedSelection => Sys2Proof.Machine.execOwedSelection s
  | .windowExpiry => Sys2Proof.Machine.execWindowExpiry s
  | .retryOpportunity => Sys2Proof.Machine.execRetryOpportunity s
  | .memoryTransferAnswer success word => Sys2Proof.Machine.execMemoryTransferAnswer success word s
  | .start arg => Sys2Proof.Machine.execStart arg s
  | .stop arg => Sys2Proof.Machine.execStop arg s
  | .abort arg => Sys2Proof.Machine.execAbort arg s
  | .softReset arg => Sys2Proof.Machine.execSoftReset arg s
  | .swap arg => Sys2Proof.Machine.execSwap arg s
  | .admitStation arg => Sys2Proof.Machine.execAdmit arg s
  | .bar arg => Sys2Proof.Machine.execBar arg s
  | .forget arg => Sys2Proof.Machine.execForget arg s
  | .clearSticky arg => Sys2Proof.Machine.execClearSticky arg s
  | .ringEnable arg => Sys2Proof.Machine.execRingEnable arg s
  | .ringResume arg => Sys2Proof.Machine.execRingResume arg s
  | .ringReset arg => Sys2Proof.Machine.execRingReset arg s
  | .queueClear arg => Sys2Proof.Machine.execQueueClear arg s
  | .commandCodeUnknown code arg => Sys2Proof.Machine.execCommandCodeUnknown code arg s
  | .post ring data => Sys2Proof.Machine.execPost ring data s
  | .ringStatusWrite ring data => Sys2Proof.Machine.execRingStatusWrite ring data s
  | .baseWrite ring data => Sys2Proof.Machine.execBaseWrite ring data s
  | .lengthWrite ring data => Sys2Proof.Machine.execLengthWrite ring data s
  | .queuePop data => Sys2Proof.Machine.execQueuePop data s
  | .intPendingWrite data => Sys2Proof.Machine.execIntPendingWrite data s
  | .intEnableWrite data => Sys2Proof.Machine.execIntEnableWrite data s
  | .windowStatusWrite data => Sys2Proof.Machine.execWindowStatusWrite data s
  | .lineConfigWrite data => Sys2Proof.Machine.execLineConfigWrite data s
  | .cyclePeriodWrite data => Sys2Proof.Machine.execCyclePeriodWrite data s
  | .guardWrite data => Sys2Proof.Machine.execGuardWrite data s
  | .missLimitWrite data => Sys2Proof.Machine.execMissLimitWrite data s
  | .rollcallConfigWrite data => Sys2Proof.Machine.execRollcallConfigWrite data s
  | .notifyThresholdWrite data => Sys2Proof.Machine.execNotifyThresholdWrite data s
  | .holdMaskWrite data => Sys2Proof.Machine.execHoldMaskWrite data s
  | .slotSelectWrite data => Sys2Proof.Machine.execSlotSelectWrite data s
  | .slotRegisterWrite register data => Sys2Proof.Machine.execSlotRegisterWrite register data s
  | .stationSelectWrite data => Sys2Proof.Machine.execStationSelectWrite data s
  | .stationConfigWrite data => Sys2Proof.Machine.execStationConfigWrite data s
  | .exmemAddrWrite data => Sys2Proof.Machine.execExmemAddrWrite data s
  | .exmemDataRead => Sys2Proof.Machine.execExmemDataRead s
  | .exmemDataWrite data => Sys2Proof.Machine.execExmemDataWrite data s
  | .narrowWrite offset enables data => Sys2Proof.Machine.execNarrowWrite offset enables data s
  | .ignoredRegisterWrite offset data => Sys2Proof.Machine.execIgnoredRegisterWrite offset data s
  | .startBit => Sys2Proof.Machine.execStartBit s
  | .resetReleased => Sys2Proof.Machine.execResetReleased s

end Sys2Proof.Machine
end

