-- ==== Sys2Proof/Machine/Due.lean ====
section
/-! DEFINITION. What the part does by itself: the event due at this moment, and the passing of a bit time. -/

namespace Sys2Proof.Machine

/-- The transmission in progress has sent its last stop bit (R11). -/
def State.txEnded (s : State) : Bool := s.line.tx.any (·.left = 0)

/-- The event of the part's own that is due now. Where several fall at one moment either may be taken first;
this order is the model's (log entry 5). -/
def State.dueEvent (s : State) : Option Instr :=
  if s.txEnded then some .transmissionComplete
  else if s.gapRuns && s.gapLeft = 0 then some .gapLimitExpiry
  else if s.quietRuns && s.quiet && s.line.rx.state = .abandoning then some .lineQuiet
  else if s.windowLeft? = some 0 then some .windowExpiry
  else if s.dueRuns && s.dueLeft = 0 then some .markDue
  else if s.markCanBegin then some .markBegin
  else if s.waitLeft? = some 0 then some .quietWaitLimit
  else if s.retryCanRun then some .retryOpportunity
  else if s.slotCanRun then some .slotOpportunity
  else if s.selectionCanRun then some .owedSelection
  else none

/-- A cell in progress has lasted its 10 bit times: what it was, only the line can say (R2). -/
def State.cellEnded (s : State) : Bool := s.line.cell.any (Config.cellBits ≤ ·)

/-- One bit time passes, unless a cell's end waits for its command (log entry 5). -/
def State.bitTime (s : State) : State := if s.cellEnded then s else s.elapse 1

end Sys2Proof.Machine
end

