-- ==== Sys2Proof/Machine/Window.lean ====
section
/-! DEFINITION. What the host and the trunk see: the word that a read of each offset shows (R194, R88, R92,
R105, R117, R158, R159, R166, R169, R179), and the levels the part drives on its outputs (R1, R174). A read
is a view of the state; only EXMEM_DATA's also changes it, and that read is the command EXMEM_DATA_READ. -/

namespace Sys2Proof.Machine

/-- The slot that the slot registers show: the selected slot of the page the view names (R92). -/
def State.shownSlot (s : State) : Slot :=
  match s.schedule.view with
  | .edit => s.schedule.editPage[s.schedule.select]
  | .active => s.schedule.activePage[s.schedule.select]

/-- STICKY_MAP over the stations `low` to `high`, station n at bit n − `base` (R159). -/
def State.stickyMap (s : State) (low high base : Nat) : Word :=
  (List.finRange 62).foldl
    (fun w i =>
      let n := i.val + 1
      if low ≤ n && n ≤ high && (s.stations[i]).sticky != 0 then w ||| fieldAt (n - base) 1 else w)
    0

/-- ENGINE_STATUS. -/
def State.engineStatus (s : State) : Word :=
  fieldAt 0 s.engine.code ||| fieldAt 4 s.cycle.phase.code ||| fieldAt 8 s.schedule.active.code
    ||| flagAt 9 s.schedule.swapPending ||| fieldAt 12 s.line.streak

/-- COMMAND_STATUS (R179). -/
def CommandStatus.word (c : CommandStatus) : Word :=
  fieldAt 0 c.code.toNat ||| fieldAt 8 c.arg.toNat ||| fieldAt 16 c.decision.code
    ||| fieldAt 20 c.detail.toNat ||| fieldAt 24 c.index.toNat

/-- SLOT_STATION (R92). -/
def Slot.stationWord (x : Slot) : Word :=
  fieldAt 0 x.station.toNat ||| fieldAt 8 x.function.toNat ||| fieldAt 16 x.rate.toNat
    ||| fieldAt 24 x.phase.toNat ||| fieldAt 28 x.report.code ||| flagAt 31 x.enable

/-- SLOT_RESULT: an empty entry reads 0 (R105). -/
def slotResultWord (x : Option SlotStatus) : Word :=
  match x with
  | none => 0
  | some e => fieldAt 0 e.result.code.toNat ||| fieldAt 8 e.cycle.toNat ||| flagAt 31 true

/-- STATION_STATE (R88). -/
def Station.stateWord (r : Station) : Word :=
  fieldAt 0 r.state.code ||| fieldAt 4 r.missCount ||| fieldAt 8 r.nextTag.toNat ||| fieldAt 16 r.maxPayload

/-- STATION_IDENT0: type and revision, 0 where the identity is absent (R88). -/
def Station.ident0 (r : Station) : Word :=
  match r.identity with
  | none => 0
  | some i => fieldAt 0 i.type.toNat ||| fieldAt 16 i.revision.toNat

/-- STATION_IDENT1: serial, 0 where the identity is absent (R88). -/
def Station.ident1 (r : Station) : Word :=
  match r.identity with
  | none => 0
  | some i => i.serial

/-- STATION_CONFIG (R87, R195). -/
def Station.configWord (r : Station) : Word :=
  fieldAt 0 r.window ||| fieldAt 16 r.alertMask.toNat ||| flagAt 31 r.search

/-- Ring STATUS (R117). -/
def RingUnit.statusWord (x : RingUnit) : Word :=
  fieldAt 0 x.state.code ||| fieldAt 2 x.reason.code ||| flagAt 4 (x.stage = .staged)
    ||| flagAt 5 x.postRefused ||| fieldAt 8 x.head ||| fieldAt 16 x.pending

/-- The head registers: the oldest entry, or 0 when the queue is empty (R166, R198). -/
def State.headWord (s : State) (show_ : Entry → Word) : Word :=
  match s.queue.entries with
  | [] => 0
  | e :: _ => show_ e

/-- The word that a read at a byte offset returns (R194). In INIT every read returns 0; ENGINE_STATUS shows
INIT, whose code is 0 (R176). -/
def State.read (s : State) (offset : Byte) : Word :=
  if s.engine = .init then 0
  else
    let station := s.station s.stationSelect
    match 4 * wordPosition offset with
    | 0x00 => s.engineStatus
    | 0x08 => s.host.commandStatus.word
    | 0x0C => fieldAt 0 s.host.windowStatus.toNat
    | 0x10 => fieldAt 0 s.host.intPending.toNat
    | 0x14 => fieldAt 0 s.host.intEnable.toNat
    | 0x18 => fieldAt 0 s.settings.bitRate.toNat
    | 0x1C => fieldAt 0 s.settings.period
    | 0x20 => fieldAt 0 s.settings.guard
    | 0x24 => fieldAt 0 s.settings.missLimit
    | 0x28 =>
      flagAt 0 s.settings.rollEnable ||| fieldAt 8 s.settings.rollInterval ||| fieldAt 16 s.settings.rollWindow
    | 0x2C => fieldAt 0 s.settings.notifyThreshold
    | 0x30 => fieldAt 0 s.cycle.number.toNat
    | 0x34 => fieldAt 0 s.cycle.clock
    | 0x38 => fieldAt 0 s.cycle.lateMarks
    | 0x3C => s.schedule.hold
    | 0x40 => fieldAt 0 s.exmemAddr.toNat
    | 0x44 => s.exmem.wordAt s.exmemAddr.toNat
    | 0x48 => fieldAt 0 s.schedule.select.val ||| flagAt 8 (s.schedule.view = .active)
    | 0x4C => s.shownSlot.stationWord
    | 0x50 => fieldAt 0 s.shownSlot.outOffset.toNat ||| fieldAt 16 s.shownSlot.outLength.toNat
    | 0x54 => fieldAt 0 s.shownSlot.inOffset.toNat ||| fieldAt 16 s.shownSlot.inCapacity.toNat
    | 0x58 => slotResultWord s.schedule.status[s.schedule.select]
    | 0x5C => fieldAt 0 s.stationSelect.toNat
    | 0x60 => station.stateWord
    | 0x64 => station.ident0
    | 0x68 => station.ident1
    | 0x6C => station.configWord
    | 0x70 => fieldAt 0 station.sticky.toNat
    | 0x74 => s.stickyMap 1 31 0
    | 0x78 => s.stickyMap 32 62 32
    | 0x80 => s.ringU.base
    | 0x84 => fieldAt 0 s.ringU.length
    | 0x88 => s.ringU.statusWord
    | 0x90 => s.ringN.base
    | 0x94 => fieldAt 0 s.ringN.length
    | 0x98 => s.ringN.statusWord
    | 0xA0 => s.headWord Entry.head0
    | 0xA4 => s.headWord Entry.head1
    | 0xAC => fieldAt 0 s.queue.entries.length ||| fieldAt 8 s.queue.overflow
    | _ => 0

/-- The bits of a byte cell as they go on the line: start bit 0, the data bits least significant first, stop
bit 1 (R1). -/
def cellBitsOf (b : Byte) : List Bool := false :: (List.range 8).map (fun i => b.getLsbD i) ++ [true]

/-- The bits of a frame on the line, cells back to back (R1). -/
def frameBits (frame : List Byte) : List Bool := frame.flatMap cellBitsOf

/-- Transmit enable: asserted while a transmission is in progress (R1, R10, R11). -/
def State.transmitEnable (s : State) : Bool := s.line.tx.isSome

/-- Transmit data: the bit of the transmission now on the line; with transmit enable released the part drives
nothing (R1). -/
def State.transmitData (s : State) : Option Bool :=
  match s.line.tx with
  | none => none
  | some t => (frameBits t.frame)[t.sent]?

end Sys2Proof.Machine
end

