-- ==== Sys2Proof/Safety.lean ====
section
/-! DEFINITION. What a safe run is, in the terms the statements use: runs of commands, the invariants that rule out
states no run reaches, and what each step of an exchange's end leaves. -/

namespace Sys2Proof.Machine

/-! ### Runs -/

/-- The commands of a list, one after the other, each a whole event. -/
def runCommands : List Instr → State → Answer
  | [], s => .next s
  | c :: rest, s =>
    match exec c s with
    | .next t => runCommands rest t
    | .fault f => .fault f
    | .refused r => .refused r

/-- A state whose waiting commands are all commands of the part: a run from it never stops. -/
def State.wellFed (s : State) : Prop := ∀ c ∈ s.pending, c.wellFormed = true

/-- The commands that are host writes and reads with an effect: in INIT the part ignores them (R176). -/
def hostCommand : Instr → Bool
  | .hardwareReset | .initClearingFinished | .cellArrival _ | .gapLimitExpiry | .lineQuiet | .echoMismatch
  | .transmissionComplete | .markDue | .markBegin | .quietWaitLimit | .slotOpportunity | .owedSelection
  | .windowExpiry | .retryOpportunity | .memoryTransferAnswer _ _ | .startBit | .resetReleased => false
  | .start _ | .stop _ | .abort _ | .softReset _ | .swap _ | .admitStation _ | .bar _ | .forget _
  | .clearSticky _ | .ringEnable _ | .ringResume _ | .ringReset _ | .queueClear _
  | .commandCodeUnknown _ _ | .post _ _ | .ringStatusWrite _ _ | .baseWrite _ _ | .lengthWrite _ _
  | .queuePop _ | .intPendingWrite _ | .intEnableWrite _ | .windowStatusWrite _ | .lineConfigWrite _
  | .cyclePeriodWrite _ | .guardWrite _ | .missLimitWrite _ | .rollcallConfigWrite _
  | .notifyThresholdWrite _ | .holdMaskWrite _ | .slotSelectWrite _ | .slotRegisterWrite _ _
  | .stationSelectWrite _ | .stationConfigWrite _ | .exmemAddrWrite _ | .exmemDataRead
  | .exmemDataWrite _ | .narrowWrite _ _ _ | .ignoredRegisterWrite _ _ => true

/-! ### Invariants of single pieces of state -/

/-- The queue's bounds (R164). -/
abbrev State.queueBounded (s : State) : Prop :=
  s.queue.entries.length ≤ 32 ∧ s.queue.overflow ≤ 255

/-- The collision streak never exceeds 4, and equals 4 only in LINE_FAULT (R13). -/
abbrev State.streakBounded (s : State) : Prop :=
  s.line.streak ≤ 4 ∧ (s.line.streak = 4 → s.engine = .lineFault)

/-- The exchange memory is in its one form: offsets below 4096, strictly rising, no byte 0 (R107). -/
abbrev State.memoryCanonical (s : State) : Prop := s.exmem.wf = true

/-- The configuration registers hold values of their ranges (R191, R192). -/
abbrev Settings.inRange (x : Settings) : Prop :=
  (2000 ≤ x.period ∧ x.period ≤ 1048575) ∧ (24 ≤ x.guard ∧ x.guard ≤ 4095)
    ∧ (1 ≤ x.missLimit ∧ x.missLimit ≤ 7) ∧ (1 ≤ x.rollInterval ∧ x.rollInterval ≤ 255)
    ∧ (16 ≤ x.rollWindow ∧ x.rollWindow ≤ 1023) ∧ (1 ≤ x.notifyThreshold ∧ x.notifyThreshold ≤ 32)

/-- The counts and selectors hold values of their ranges: the cycle clock, the late-mark count, the
roll-call pointer (02_the_cycle.md, table of state), STATION_SELECT (R86), EXMEM_ADDR (R107), and each ring's BASE and
LENGTH (R112). -/
abbrev State.countsInRange (s : State) : Prop :=
  s.cycle.clock ≤ 2097151 ∧ s.cycle.lateMarks ≤ 65535
    ∧ (1 ≤ s.cycle.rollPointer.toNat ∧ s.cycle.rollPointer.toNat ≤ 62)
    ∧ (1 ≤ s.stationSelect.toNat ∧ s.stationSelect.toNat ≤ 62) ∧ s.exmemAddr.toNat % 4 = 0
    ∧ ((s.ringU.base.toNat % 32 = 0 ∧ s.ringU.length ≤ 511)
      ∧ s.ringN.base.toNat % 32 = 0 ∧ s.ringN.length ≤ 511)

/-- A station record under a miss limit: an identity exactly outside ABSENT, with a max payload of at most
120; a miss count above 0 exactly in SUSPECT, and below the limit; the window in its range (R65, R67,
R76, R87). -/
abbrev Station.consistent (limit : Nat) (r : Station) : Prop :=
  (r.identity = none ↔ r.state = .absent) ∧ r.maxPayload ≤ 120
    ∧ (r.missCount ≠ 0 ↔ r.state = .suspect) ∧ (r.state = .suspect → r.missCount < limit)
    ∧ (16 ≤ r.window ∧ r.window ≤ 1023)

/-- Every station record is consistent with the miss limit in force. -/
abbrev State.stationsConsistent (s : State) : Prop :=
  ∀ i : Fin 62, (s.stations[i]).consistent s.settings.missLimit

/-- The context holds an exchange only in RUNNING and STOPPING (R177, R184, R186), never while a mark is being
sent (R23); and one that waits in ENDING is a ring record's to a station, owed a retry (R52, R64). -/
abbrev State.contextPlaced (s : State) : Prop :=
  (s.context.isSome = true → s.engine = .running ∨ s.engine = .stopping)
    ∧ (s.line.tx.any (·.user = .mark) = true → s.context = none)
    ∧ (s.context.all fun e =>
        e.state != .ending || (e.toStation && !e.orphaned
          && (match e.source with
              | .ring _ _ => true
              | .slot _ => false
              | .rollCall => false))) = true

/-! ### The rings, the request queue and the context together (R111, R113, R136) -/

/-- The requests that a ring in a record stage has in the Memory Master, discarded ones apart (R113). -/
def Stage.requestKinds : Stage → List (List RequestKind)
  | .none | .staged | .inExchange => [[]]
  | .fetching => [[.recordRead]]
  | .loading => [[.dataRead]]
  | .writingBack => [[.dataWrite, .statusWrite], [.statusWrite]]

/-- The requests of a ring in the queue, oldest first. -/
def State.requestsOf (s : State) (r : Ring) : List Request := s.requests.filter (·.ring = r)

/-- A ring has a current record in every stage but NONE and FETCHING. -/
def Stage.holdsRecord : Stage → Bool
  | .none | .fetching => false
  | .loading | .staged | .inExchange | .writingBack => true

/-- The out data of the current record is read in: as long as its out length says (R121). -/
def Stage.dataRead : Stage → Bool
  | .staged | .inExchange => true
  | .none | .fetching | .loading | .writingBack => false

/-- A ring agrees with itself, with its requests and with the context. -/
structure State.RingConsistent (s : State) (r : Ring) : Prop where
  /-- Pending never exceeds the length (R111). -/
  pending : (s.ringUnit r).pending ≤ (s.ringUnit r).length
  /-- A ring in OFF has head 0, pending 0 and no staged record (R111). -/
  off : (s.ringUnit r).state = .off →
    (s.ringUnit r).head = 0 ∧ (s.ringUnit r).pending = 0 ∧ (s.ringUnit r).stage = .none
  /-- Head is below the length while the ring is ACTIVE or HALTED (R111, R131). -/
  head : (s.ringUnit r).state ≠ .off →
    4 ≤ (s.ringUnit r).length ∧ (s.ringUnit r).length ≤ 256
      ∧ (s.ringUnit r).head < (s.ringUnit r).length
  /-- Only an ACTIVE ring works on a record (R111, R130). -/
  working : (s.ringUnit r).stage ≠ .none → (s.ringUnit r).state = .active
  /-- A halt reason stands exactly in HALTED (R130, R132, R133). -/
  reason : (s.ringUnit r).reason ≠ .none ↔ (s.ringUnit r).state = .halted
  /-- The current record (R113). -/
  current : (s.ringUnit r).current.isSome = (s.ringUnit r).stage.holdsRecord
  /-- The requests of the stage, or the begun one that a reset left (R113, R134). -/
  requests :
    ((s.requestsOf r).all (!·.discarded) = true
        ∧ (s.requestsOf r).map (·.kind) ∈ (s.ringUnit r).stage.requestKinds)
      ∨ ((s.ringUnit r).stage = .none ∧ (s.requestsOf r).map (·.discarded) = [true])
  /-- A record in IN_EXCHANGE is the one in the context (R113, R64). -/
  exchange : (s.ringUnit r).stage = .inExchange ↔
    ∃ e i, s.context = some e ∧ e.source = .ring r i ∧ e.orphaned = false
  /-- The out data read is as long as the out length (R121). -/
  outData : ∀ record, (s.ringUnit r).current = some record → (s.ringUnit r).stage.dataRead = true →
    record.outData.length = record.outLength.toNat
  /-- The DATA_READ under way reads the out length's bytes (R121). -/
  reading : ∀ q ∈ s.requestsOf r, q.kind = .dataRead → q.discarded = false →
    ∃ record, (s.ringUnit r).current = some record ∧ q.count = record.outLength.toNat

/-- The request queue: the oldest request and no other is begun, only a begun one is discarded, each keeps the
words it has read, and one that a SOFT_RESET left begun is alone in the queue, with no ring at work (R136,
R138, R144, R145). -/
structure State.QueueServed (s : State) : Prop where
  begun : s.requests.map (·.begun) = (s.requests.zipIdx.map fun p => p.2 == 0)
  discarded : ∀ q ∈ s.requests, q.discarded = true → q.begun = true
  words : ∀ q ∈ s.requests, q.words.length = q.answered
  sole : ∀ q ∈ s.requests, q.sole = true →
    s.requests = [q] ∧ q.discarded = true ∧ s.ringU.stage = .none ∧ s.ringN.stage = .none

/-- The rings, the request queue and the context agree (R111, R113, R136). -/
structure State.RingsConsistent (s : State) : Prop where
  ringU : s.RingConsistent .u
  ringN : s.RingConsistent .n
  served : s.QueueServed

/-! ### Time in the statements -/

/-- The cycle's state after k bit times with no event in them: the clock (R21) and the age of a mark want (R27)
have run on, and nothing else has changed. In INIT no trunk time is kept. -/
def CycleUnit.ranOn (x : CycleUnit) (engine : Engine) (k : Nat) : CycleUnit :=
  { x with
    clock :=
      if 0 < k ∧ engine ∈ [.running, .stopping, .lineFault] then min 2097151 (x.clock + k) else x.clock
    want := if engine = .init then x.want else x.want.map fun w => { w with age := w.age + k } }

/-- The cycle's state once a slot's work has ended in RUNNING, `next` being the first slot after it that is enabled
and due: the walk moves there, or is finished and the phase is OPEN, with a selection owed unless the mark is
wanted (R31, R33; log entry 10). A walk that is finished already stays so (R32). -/
def CycleUnit.walkedOn (x : CycleUnit) (next : Option (Fin 32)) : CycleUnit :=
  if x.walk = none then x
  else
    match next with
    | some i => { x with walk := some i }
    | none => { x with walk := none, phase := .opened, owed := decide (x.want = none) }

/-- The cycle's state at a selection point in RUNNING: in OPEN a selection is owed (R33), unless the mark is wanted,
which is the model's reading (DEDUCED, log entry 11). -/
def CycleUnit.selecting (x : CycleUnit) : CycleUnit :=
  if x.phase = .opened ∧ x.want = none then { x with owed := true } else x

/-- The line once a frame has been accepted for transmission: its first bit ends the line's rest, and a receiver still
in ABANDONING is IDLE again; the rest of the receiver and the streak stand (R9, R19). -/
def LineUnit.sending (x : LineUnit) (user : TxUser) (frame : List Byte) : LineUnit :=
  { x with
    tx := some { user := user, frame := frame, sent := 0 }, idleRun := 0, rest := .resting, cell := none
    rx := { x.rx with state := if x.rx.state = .abandoning then .idle else x.rx.state } }

/-- The line once the engine has cut what was being sent, if anything: the cell that was being sent has ended and the
idle run counts from 0 when the line is next at rest (R3, R12; log entry 22). With no transmission it stands. -/
def LineUnit.cutOff (x : LineUnit) : LineUnit :=
  if x.tx = none then x else { x with tx := none, idleRun := 0, rest := .heldAfterCut, cell := none }

/-! ### What the end of an exchange hands on (R54, R57, R61, R62)

Each of these is the state after one step of a hand-off, so that a statement gives the station records, the
queue and the flags after several steps in their order. `supervise`, `account` and `post` have statements of their
own, SupervisionUpdates, AccountingSplitsByTheAlertMask and PostPlacesOrRefuses. -/

/-- After the accounting of an exchange's unaccounted causes: code 1 and the slot index for a slot's, code 2, the
record index and the ring for a ring record's, and none for a broadcast or a roll call (R57, R149, R150, R152). -/
def State.afterAccounting (s : State) (source : Source) (a : Address) (kinds : KindSet) : State :=
  if a = 63 then s
  else
    match source with
    | .slot i => s.account a kinds { Entry.blank .alert 1 0 with index := BitVec.ofNat 8 i.val }
    | .ring r i => s.account a kinds { Entry.blank .alert 2 0 with index := i, ring := r }
    | .rollCall => s

/-- After the SLOT entry of a slot's result, which its report mode may leave out (R106, R163). -/
def State.afterSlotEntry (s : State) (i : Fin 32) (result : Result) (causes : KindSet) : State :=
  if (s.schedule.activePage[i]).report = .always
      ∨ (s.schedule.activePage[i]).report = .onFault ∧ result ≠ .ok ∧ result ≠ .okHeld then
    s.post
      { kind := .slot, code := result.code, reissued := false, duplicate := false, late := false, ring := .u
        station := (s.schedule.activePage[i]).station, index := BitVec.ofNat 8 i.val
        cycle := s.cycle.number, causes := causes }
  else s

/-- After a slot's result: its status entry and its SLOT entry (R105, R106). -/
def State.afterSlotResult (s : State) (i : Fin 32) (result : Result) (causes : KindSet) : State :=
  { s.afterSlotEntry i result causes with
    schedule := { s.schedule with
      status := s.schedule.status.set i (some { result := result, cycle := s.cycle.number }) } }

/-- After the swap that an entry to HALTED applies, with its entry, and the HALTED flag (R98, R100, R188). -/
def State.afterHalting (s : State) : State :=
  (if s.schedule.swapPending = true then
    State.post
      { s with
        schedule := { s.schedule with
          active := s.schedule.active.other, status := Vector.replicate 32 none, swapPending := false } }
      { Entry.blank .swapDone 0 s.cycle.number with index := BitVec.ofNat 8 s.schedule.active.other.code }
  else s).raise .halted

/-- The station records, the queue and the host's registers of one state are those of another. -/
def State.handsOn (t v : State) : Prop := t.stations = v.stations ∧ t.queue = v.queue ∧ t.host = v.host

/-- A request as its ring issues it, with the bytes of a DATA_WRITE; the words of a STATUS_WRITE are formed when it
begins (R126, R136). -/
def Request.shape (q : Request) : RequestKind × Ring × Byte × Word × Nat × List Byte :=
  (q.kind, q.ring, q.index, q.address, q.count, if q.kind = .dataWrite then q.data else [])

/-- The STATUS_WRITE of a ring's record as its ring issues it (R126, R136). -/
def State.statusWriteRequest (s : State) (r : Ring) (record : RingRecord) : Request :=
  { kind := .statusWrite, ring := r, index := record.index
    address := (s.ringUnit r).base + BitVec.ofNat 32 (32 * record.index.toNat) + 16, count := 8, data := []
    begun := false, discarded := false, sole := false, answered := 0, words := [] }

/-- The RECORD_READ of the record at a ring's head as its ring issues it: words 0 to 5 (R118, R136). -/
def State.fetchRequest (s : State) (r : Ring) : Request :=
  { kind := .recordRead, ring := r, index := BitVec.ofNat 8 (s.ringUnit r).head
    address := (s.ringUnit r).base + BitVec.ofNat 32 (32 * (s.ringUnit r).head), count := 24, data := []
    begun := false, discarded := false, sole := false, answered := 0, words := [] }

/-- The request queue of a state once the port is free: of the requests waiting, oldest first, the oldest has begun,
a STATUS_WRITE with its words formed from its ring's completed record, and the others wait as they stood (R126, R136,
R138). -/
def State.servesNext (t : State) (waiting : List Request) : Prop :=
  (waiting = [] → t.requests = [])
    ∧ (∀ p more, waiting = p :: more → p.kind ≠ .statusWrite → t.requests = { p with begun := true } :: more)
    ∧ ∀ p more record c, waiting = p :: more → p.kind = .statusWrite →
        (t.ringUnit p.ring).current = some record → record.completion = some c →
        t.requests = { p with
          begun := true
          data := wordBytes (statusWord4 c.result ((c.reply.map (·.payload.length)).getD 0)
              record.tries record.reissued c.cycle)
            ++ wordBytes (statusWord5 record.causes ((c.reply.map (·.condition)).getD 0)) } :: more

/-- The request queue once requests have been issued behind those waiting: behind a begun one every request stands as
it was and the issued ones wait as their rings issued them; on a free port the first issued has begun at its issue, a
STATUS_WRITE with its words formed (R126, R136, R138). -/
def State.issuesBehind (t : State) (waiting issued : List Request) : Prop :=
  t.requests.map Request.shape = (waiting ++ issued).map Request.shape
    ∧ (∀ q rest, waiting = q :: rest → q.begun = true → t.requests = waiting ++ issued)
    ∧ (waiting = [] → t.servesNext issued)

/-- The DATA_WRITE of a reply as its ring issues it; a reply with no payload, or none, has none (R126, R136). -/
def RingRecord.replyRequests (record : RingRecord) (r : Ring) : Option Reply → List Request
  | none => []
  | some y =>
    if y.payload = [] then []
    else
      [{ kind := .dataWrite, ring := r, index := record.index, address := record.inAddress
         count := y.payload.length, data := y.payload, begun := false, discarded := false, sole := false
         answered := 0, words := [] }]

/-- A ring's record completes: its result, its reply and the exchange's progress stand in it, and its write-back is
issued behind the requests waiting, a DATA_WRITE of a reply with a payload and then the STATUS_WRITE; the other ring
stands (R57, R125, R126, R136, R138). -/
def State.completes (s t : State) (r : Ring) (e : Exchange) (record : RingRecord) (result : Result)
    (reply : Option Reply) : Prop :=
  t.ringUnit r = { s.ringUnit r with
      stage := .writingBack
      current := some { record with
        tries := e.tries, tag := e.tag, reissued := e.reissued, causes := e.causes
        completion := some { result := result, cycle := s.cycle.number, reply := reply } } }
    ∧ (∀ q, q ≠ r → t.ringUnit q = s.ringUnit q)
    ∧ t.issuesBehind s.requests (record.replyRequests r reply ++ [s.statusWriteRequest r record])

/-- A ring's record returns to staging with the exchange's progress; the other ring and the requests stand (R54,
R124). -/
def State.restages (s t : State) (r : Ring) (e : Exchange) (record : RingRecord) : Prop :=
  t.ringUnit r = { s.ringUnit r with
      stage := .staged
      current := some { record with
        tries := e.tries, tag := e.tag, reissued := e.reissued, causes := e.causes } }
    ∧ (∀ q, q ≠ r → t.ringUnit q = s.ringUnit q) ∧ t.requests = s.requests

/-- Both rings and the request queue of one state are those of another. -/
def State.keepsRings (t s : State) : Prop :=
  t.ringU = s.ringU ∧ t.ringN = s.ringN ∧ t.requests = s.requests

/-- What no exchange's end touches stands: the RESET input, the configuration, the selectors, the exchange memory and
the model's own fields. -/
def State.keepsRest (t s : State) : Prop :=
  { t with
    engine := s.engine, line := s.line, cycle := s.cycle, context := s.context, lateWatch := s.lateWatch
    lateFrame := s.lateFrame, stations := s.stations, schedule := s.schedule, ringU := s.ringU
    ringN := s.ringN, requests := s.requests, queue := s.queue, host := s.host } = s

/-- The context empties, `v` being the state that the exchange's end has left so far: in RUNNING the Cycle Unit goes on
as `moved`; in STOPPING the engine halts within the event (R39, R184, R188). -/
def State.closes (t v : State) (moved : CycleUnit) : Prop :=
  t.context = none
    ∧ (v.engine = .running →
      t.engine = .running ∧ t.cycle = moved ∧ t.line = v.line ∧ t.lateWatch = v.lateWatch
        ∧ t.lateFrame = v.lateFrame ∧ t.schedule = v.schedule ∧ t.handsOn v)
    ∧ (v.engine = .stopping →
      t.engine = .halted ∧ t.cycle = { v.cycle with want := none, owed := false }
        ∧ t.line = { v.line with rx := { v.line.rx with state := .idle } } ∧ t.lateWatch = none
        ∧ t.lateFrame = none ∧ t.schedule = v.afterHalting.schedule ∧ t.handsOn v.afterHalting)

/-- The engine enters LINE_FAULT, `v` being the state that the exchange's end has left so far: its entry and its flag
come last (R163, R186). -/
def State.faults (t v : State) (code : BitVec 5) : Prop :=
  t.engine = .lineFault ∧ t.context = none ∧ t.cycle = { v.cycle with want := none, owed := false }
    ∧ t.line = v.line ∧ t.lateWatch = v.lateWatch ∧ t.lateFrame = v.lateFrame ∧ t.schedule = v.schedule
    ∧ t.handsOn ((v.post (Entry.blank .lineFault code v.cycle.number)).raise .line)

/-! ### The budget of an exchange (R28) -/

/-- The budget of an exchange's try, from the out bytes its request carries, its in capacity and the window
fixed for it (R28, R41). -/
def Exchange.budget (e : Exchange) : Nat :=
  if e.source = .rollCall then 210 + e.window
  else if e.station = 63 then 10 * (6 + e.outData.length)
  else 10 * (12 + e.outData.length + e.inCapacity) + e.window

/-- A staged record passes the tests of its offer and fits at this moment (R28, R29, R35). -/
def State.fitsNow (s : State) (record : RingRecord) : Prop :=
  s.recordVerdict record = none
    ∧ s.cycle.clock
        + (if record.station = 63 then 10 * (6 + record.outLength.toNat)
            else 10 * (12 + record.outLength.toNat + record.inCapacity.toNat) + (s.station record.station).window)
        + s.settings.guard ≤ s.settings.period

/-- No staged record of the ring can go at this moment: there is none, or it passes the tests of its offer and
does not fit, and so stays staged (R34, R35). -/
def State.stagedDoesNotFit (s : State) (r : Ring) : Prop :=
  (s.ringUnit r).stage ≠ .staged
    ∨ ∃ record, (s.ringUnit r).current = some record ∧ s.recordVerdict record = none ∧ ¬ s.fitsNow record

/-! ### What a selection does with the staged records (R34, R35, R123) -/

/-- The staged record of a ring is chosen and its try begins, the first of its stay: the whole exchange, with a
fresh tag for a first try of all and for one that finds the station's next tag moved on, and the record's own tag
otherwise; the station's next tag is one past it. A broadcast carries tag 0, has no window and no retry, and
touches no station (R40, R41, R50, R51, R55, R58). -/
def State.beginsRecord (s t : State) (r : Ring) (record : RingRecord) : Prop :=
  ∃ (tag : BitVec 3) (reissued : Bool),
    (record.station = 63 → tag = 0 ∧ reissued = record.reissued ∧ t.stations = s.stations)
    ∧ (record.station ≠ 63 →
        (record.tries = 0 → tag = (s.station record.station).nextTag ∧ reissued = record.reissued)
        ∧ (record.tries ≠ 0 → (s.station record.station).nextTag = record.tag + 1 →
            tag = record.tag ∧ reissued = record.reissued)
        ∧ (record.tries ≠ 0 → (s.station record.station).nextTag ≠ record.tag + 1 →
            tag = (s.station record.station).nextTag ∧ reissued = true)
        ∧ t.station record.station = { s.station record.station with nextTag := tag + 1 }
        ∧ ∀ a, a ≠ record.station → t.station a = s.station a)
    ∧ t.context = some
        { source := .ring r record.index, station := record.station, tag := tag, function := record.function
          stale := false, outData := record.outData, inCapacity := record.inCapacity.toNat
          retryLimit := if record.station = 63 then 0 else record.retryLimit.toNat
          tries := record.tries + 1
          window := if record.station = 63 then 0 else (s.station record.station).window
          expiry := none, causes := record.causes, unaccounted := 0, answered := false, reissued := reissued
          orphaned := false, last := none, reply := none, state := .transmitting }
    ∧ t.line = s.line.sending .attempt (requestFrame record.station tag false record.function record.outData)
    ∧ t.lateWatch = none ∧ t.cycle = { s.cycle with owed := false }
    ∧ t.ringUnit r = { s.ringUnit r with stage := .inExchange }

/-- The staged record of a ring completes at its offer with a result of its tests (R35, R123). -/
def State.offerFails (s : State) (r : Ring) (record : RingRecord) (result : Result) : Prop :=
  (s.ringUnit r).stage = .staged ∧ (s.ringUnit r).current = some record ∧ s.recordVerdict record = some result

/-- A ring whose record its tests complete: the record keeps the progress it holds, and is written back (R35, R123,
R125). -/
def RingUnit.completedBy (x : RingUnit) (record : RingRecord) (result : Result) (cycle : BitVec 16) : RingUnit :=
  { x with
    stage := .writingBack
    current := some { record with completion := some { result := result, cycle := cycle, reply := none } } }

/-- The offers to the rings choose nothing: `done r` is the record that the tests of ring r's offer complete, with its
result, and without one ring r has no staged record that can go (R34, R35). -/
def State.offersChooseNothing (s : State) (done : Ring → Option (RingRecord × Result)) : Prop :=
  ∀ r, (done r = none → s.stagedDoesNotFit r)
    ∧ ∀ record result, done r = some (record, result) → s.offerFails r record result

/-- What those offers leave: each completed record with its STATUS_WRITE issued behind the requests waiting, those of
both rings in either order (R126, R136, R138; the order is a free value, log entry 30); any other ring stands. -/
def State.afterOffers (s t : State) (done : Ring → Option (RingRecord × Result)) : Prop :=
  (∀ r, (done r = none → t.ringUnit r = s.ringUnit r)
      ∧ ∀ record result, done r = some (record, result) →
        t.ringUnit r = (s.ringUnit r).completedBy record result s.cycle.number)
    ∧ (∃ first second, (first, second) ∈ [(Ring.u, Ring.n), (Ring.n, Ring.u)]
        ∧ t.issuesBehind s.requests
          ((done first).toList.map (fun p => s.statusWriteRequest first p.1)
            ++ (done second).toList.map (fun p => s.statusWriteRequest second p.1)))
    ∧ ((∀ r, done r = none) → t.requests = s.requests)
    ∧ ((∃ r, done r = none) → t.orderIndex = s.orderIndex)

/-! ### Frames outside an exchange -/

/-- No try awaits or takes a reply: the context is empty, or its exchange waits in ENDING for its retry. -/
def State.awaitsNoReply (s : State) : Prop := ∀ e, s.context = some e → e.state = .ending ∧ e.expiry = none

end Sys2Proof.Machine
end

