-- ==== Sys2Proof/Certificates/Slice0/Obligations.lean ====
section
/-! DEFINITION. The statements for the provers. Each says what its title in OBLIGATIONS.json says; a frame is
written `{ t with f := s.f, … } = s`: everything but the named fields f is as before. -/

open Sys2Proof Sys2Proof.Machine

/-! ### The step, the queue and the invariants -/

/-- A step takes the command at the front of the queue.
The queue of waiting commands is the model's own (log entries 8 and 19). -/
def Obligations.StepTakesTheFrontCommand : Prop :=
  ∀ (c : Instr) (rest : List Instr) (s : State),
    step { s with pending := c :: rest } = exec c { s with pending := rest }

/-- A command neither reads the queue of waiting commands nor changes it.
The queue of waiting commands is the model's own (log entry 19). -/
def Obligations.CommandsNeitherReadNorChangeTheQueue : Prop :=
  ∀ (c : Instr) (s t : State) (q : List Instr),
    exec c s = .next t →
    t.pending = s.pending ∧ exec c { s with pending := q } = .next { t with pending := q }

/-- A run over commands of the part never stops, and a term that is no command is refused by name.
That a term outside the commands is refused, and that an event whose condition does not hold changes
nothing, are the model's choices (log entries 16 and 7). -/
def Obligations.RunsOverCommandsNeverStop : Prop :=
  (∀ (k : Nat) (s : State), s.wellFed → ∃ t, Host.Core.run Sys2Proof.core k s = .next t)
    ∧ ∀ (c : Instr) (s : State), c.wellFormed = false → ∃ m, exec c s = .refused (.illFormed m)

/-- Every invariant below holds of the state after hardware reset. -/
def Obligations.ResetMeetsTheInvariants : Prop :=
  State.reset.queueBounded ∧ State.reset.streakBounded ∧ State.reset.memoryCanonical
    ∧ State.reset.settings.inRange ∧ State.reset.countsInRange ∧ State.reset.stationsConsistent
    ∧ State.reset.contextPlaced ∧ State.reset.RingsConsistent

/-- R164: the bounds of the completion queue, kept by every step. -/
def Obligations.QueueStaysWithinItsBounds : Prop :=
  ∀ s t : State, s.queueBounded → step s = .next t → t.queueBounded

/-- R13: the collision streak, kept by every step. -/
def Obligations.StreakFourOnlyInLineFault : Prop :=
  ∀ s t : State, s.streakBounded → step s = .next t → t.streakBounded

/-- R107: the one form of the exchange memory, kept by every step. -/
def Obligations.ExchangeMemoryStaysCanonical : Prop :=
  ∀ s t : State, s.memoryCanonical → step s = .next t → t.memoryCanonical

/-- R65, R67, R76, R78, R86, R87, R107, R112, R191, R192: the ranges of the configuration registers, the counts,
the selectors, each ring's BASE and LENGTH and the station records, kept by every step. -/
def Obligations.RegistersAndStationsStayInRange : Prop :=
  ∀ s t : State, s.settings.inRange → s.countsInRange → s.stationsConsistent → step s = .next t →
    t.settings.inRange ∧ t.countsInRange ∧ t.stationsConsistent

/-- R39, R52, R111, R113, R136, R138, R145, R177: the exchange context, the rings and the request queue agree, and
every step keeps that; so the queue never holds more than 4 requests, or more than 2 of one ring, and a request
that a SOFT_RESET left begun is alone in it (log entry 25). -/
def Obligations.ContextRingsAndRequestsStayConsistent : Prop :=
  (∀ s t : State, s.contextPlaced → s.RingsConsistent → step s = .next t →
      t.contextPlaced ∧ t.RingsConsistent)
    ∧ ∀ s : State, s.RingsConsistent →
      s.requests.length ≤ 4 ∧ (s.requestsOf .u).length ≤ 2 ∧ (s.requestsOf .n).length ≤ 2
        ∧ ∀ q ∈ s.requests, q.sole = true → s.requests = [q]

/-! ### Rules of the whole part -/

/-- R9, R23, R29, R38: when a transmission can begin. Byte 1 of the mark follows the frame layout (log entry 23).

First the moments at which MARK_BEGIN, SLOT_OPPORTUNITY, OWED_SELECTION and RETRY_OPPORTUNITY find their condition:
an IDLE transmitter and a quiet line, with a mark wanted and an empty context, with the walk at a slot and no mark
wanted, with a selection owed and no mark wanted, and with a retry owed (R23, R26, R31, R33, R53). -/
def Obligations.TransmissionsBeginOnlyWhenTheyMay : Prop :=
  (∀ s : State,
      (s.markCanBegin = true ↔
        s.engine ∈ [.starting, .running] ∧ s.cycle.want ≠ none ∧ s.context = none
          ∧ s.line.tx = none ∧ s.line.idleRun = 24)
      ∧ (s.slotCanRun = true ↔
        s.engine = .running ∧ s.cycle.phase = .cyclic ∧ s.cycle.walk ≠ none ∧ s.cycle.want = none
          ∧ s.context = none ∧ s.line.tx = none ∧ s.line.idleRun = 24)
      ∧ (s.selectionCanRun = true ↔
        s.engine = .running ∧ s.cycle.phase = .opened ∧ s.cycle.owed = true ∧ s.cycle.want = none
          ∧ s.context = none ∧ s.line.tx = none ∧ s.line.idleRun = 24)
      ∧ (s.retryCanRun = true ↔
        (∃ e, s.context = some e ∧ e.state = .ending) ∧ s.line.tx = none ∧ s.line.idleRun = 24))
    ∧ ∀ (c : Instr) (s t : State) (x : Transmission),
    s.contextPlaced → s.RingsConsistent → exec c s = .next t → s.line.tx = none → t.line.tx = some x →
    s.line.idleRun = 24 ∧ x.sent = 0
      ∧ match x.user with
        | .mark =>
          (s.engine = .starting ∨ s.engine = .running) ∧ t.engine = .running ∧ s.cycle.want.isSome = true
            ∧ s.context = none ∧ t.cycle.clock = 0 ∧ t.cycle.number = s.cycle.number + 1
            ∧ x.frame = markFrame t.cycle.number t.schedule.active
        | .attempt =>
          s.engine = .running
            ∧ ∃ e, t.context = some e ∧ e.state = .transmitting
              ∧ x.frame = (if e.source = .rollCall then rollFrame e.station
                  else requestFrame e.station e.tag e.stale e.function e.outData)
              ∧ t.cycle.clock + e.budget + t.settings.guard ≤ t.settings.period

/-- R90, R93, R98: the active page changes only by a swap, and no write reaches it. -/
def Obligations.ActivePageChangesOnlyBySwap : Prop :=
  ∀ (c : Instr) (s t : State),
    exec c s = .next t → c ≠ .hardwareReset → c ≠ .initClearingFinished →
    (t.schedule.active = s.schedule.active ∧ t.schedule.activePage = s.schedule.activePage)
      ∨ (t.schedule.active = s.schedule.active.other ∧ t.schedule.activePage = s.schedule.editPage
          ∧ t.schedule.editPage = s.schedule.activePage
          ∧ t.schedule.swapPending = false ∧ t.schedule.status = Vector.replicate 32 none
          ∧ (s.schedule.swapPending = true ∨ ∃ arg, c = .swap arg ∧ s.engine = .halted))

/-- R172, R186, R188: the flags and the dropped work at the entries to HALTED and LINE_FAULT. -/
def Obligations.EntriesToHaltedAndLineFaultRaiseTheirFlags : Prop :=
  ∀ (c : Instr) (s t : State), exec c s = .next t →
    (s.engine ≠ .halted → s.engine ≠ .init → (∀ arg, c ≠ .softReset arg) → t.engine = .halted →
      t.flag .halted = true ∧ t.schedule.swapPending = false ∧ t.line.rx.state = .idle
        ∧ t.lateWatch = none)
    ∧ (s.engine ≠ .lineFault → t.engine = .lineFault →
      t.flag .line = true ∧ t.context = none ∧ t.cycle.want = none ∧ t.cycle.owed = false)

/-! ### Resets and INIT -/

/-- The map's reset values: what each register reads once INIT has ended. -/
def Obligations.RegistersReadTheirResetValues : Prop :=
  ∃ t, runCommands [.resetReleased, .initClearingFinished] State.reset = .next t
    ∧ [0x00, 0x04, 0x08, 0x0C, 0x10, 0x14, 0x18, 0x1C, 0x20, 0x24, 0x28, 0x2C, 0x30, 0x34, 0x38, 0x3C,
        0x40, 0x44, 0x48, 0x4C, 0x50, 0x54, 0x58, 0x5C, 0x60, 0x64, 0x68, 0x6C, 0x70, 0x74, 0x78, 0x7C,
        0x80, 0x84, 0x88, 0x8C, 0x90, 0x94, 0x98, 0x9C, 0xA0, 0xA4, 0xA8, 0xAC, 0xB0, 0xFC].map
        (fun offset => t.read offset)
      = [0x1, 0, 0, 0, 0, 0, 0, 0x2710, 0x20, 0x3, 0x800100, 0x1, 0xFFFF, 0, 0, 0,
        0, 0, 0, 0, 0, 0, 0, 0x1, 0, 0, 0, 0x82FF0040, 0, 0, 0, 0,
        0, 0x4, 0, 0, 0, 0x4, 0, 0, 0, 0, 0, 0, 0, 0]

/-- HARDWARE_RESET, RESET_RELEASED and INIT_CLEARING_FINISHED (R176). That the three fields of the model's own go
on over a reset is its choice (log entries 3, 19 and 25), as are the 0 of the receiver's count, bytes and CRC (log
entry 2) and of the field that keeps the word last read (log entry 13), the line's rest with no cell in progress,
where R3 and R176 say only what holds if it rests at 1 (log entry 14), and the empty queue of commands (log entry
8); and that NOTIFY is cleared with the other flags is its reading (log entry 26).

First the hardware-reset values, piece by piece (R65, R89, R175, R176, R191). -/
def Obligations.HardwareResetAndInit : Prop :=
  (State.reset =
      { engine := .init, resetAsserted := true
        line :=
          { tx := none, idleRun := 0, rest := .resting, cell := none, rx := Receiver.reset, streak := 0
            freeIndex := 0 }
        cycle := CycleUnit.reset
        settings :=
          { bitRate := 0, period := 10000, guard := 32, missLimit := 3, rollEnable := false
            rollInterval := 1, rollWindow := 128, notifyThreshold := 1 }
        context := none, lateWatch := none, lateFrame := none
        stations := Vector.replicate 62 Station.reset, stationSelect := 1
        schedule :=
          { page0 := Vector.replicate 32 Slot.reset, page1 := Vector.replicate 32 Slot.reset, active := .zero
            swapPending := false, hold := 0, status := Vector.replicate 32 none, select := 0, view := .edit }
        exmem := [], exmemAddr := 0, ringU := RingUnit.reset, ringN := RingUnit.reset, requests := []
        orderIndex := 0, queue := { entries := [], overflow := 0 }
        host :=
          { intPending := 0, intEnable := 0, windowStatus := 0
            commandStatus := { code := 0, arg := 0, decision := .none, detail := 0, index := 0 }
            readData := 0 }
        pending := [] })
    ∧ Receiver.reset =
      { state := .idle, count := 0, crc := 0, addressKind := 0, control := 0, length := 0, staging := []
        checkHigh := 0 }
    ∧ CycleUnit.reset =
      { clock := 0, number := 65535, oldNumber := none, lateMarks := 0, phase := .mark, want := none
        walk := some 0, owed := false, rollPointer := 1, rollDone := false }
    ∧ Station.reset =
      { state := .absent, identity := none, nextTag := 0, missCount := 0, window := 64, alertMask := 0x2FF
        sticky := 0, search := true }
    ∧ Slot.reset =
      { enable := false, station := 0, function := 0, outOffset := 0, outLength := 0, inOffset := 0
        inCapacity := 0, rate := 0, phase := 0, report := .never }
    ∧ RingUnit.reset =
      { state := .off, reason := .none, base := 0, length := 4, head := 0, pending := 0, stage := .none
        current := none, postRefused := false }
    ∧ (∀ s : State, exec .hardwareReset s = .next
      { State.reset with
        line := { LineUnit.reset with freeIndex := s.line.freeIndex }, orderIndex := s.orderIndex,
        pending := s.pending })
    ∧ (∀ s : State, s.engine = .init → s.resetAsserted = true →
      exec .resetReleased s = .next { s with resetAsserted := false })
    ∧ ∀ s : State, s.engine = .init → s.resetAsserted = false →
      ∃ t, exec .initClearingFinished s = .next t ∧ t.engine = .halted
        ∧ (∀ a, t.exmem.byteAt a = 0)
        ∧ (∀ i : Fin 32, t.schedule.page0[i] = Slot.reset ∧ t.schedule.page1[i] = Slot.reset)
        ∧ { t with engine := s.engine, exmem := s.exmem, schedule := s.schedule } = s
        ∧ { t.schedule with page0 := s.schedule.page0, page1 := s.schedule.page1 } = s.schedule

/-- In INIT every write is ignored, and the read of EXMEM_DATA returns 0 and advances nothing (R176,
R108).
The word a read of EXMEM_DATA hands over stands in a field of the model's own (log entry 13). -/
def Obligations.InitIgnoresTheHost : Prop :=
  ∀ (c : Instr) (s : State), hostCommand c = true → c.wellFormed = true → s.engine = .init →
    (c ≠ .exmemDataRead → exec c s = .next s)
      ∧ exec .exmemDataRead s = .next { s with host := { s.host with readData := 0 } }
      ∧ ∀ offset, s.read offset = 0

/-! ### Events of the line -/

/-- START_BIT and LINE_QUIET, and a bad cell, after which no start bit is recognised while the line is held at 0,
each with the whole line as it leaves it (R2, R3, R14, R17, R19). What the line's rest is after a bad cell or a
cut, and that the event takes the time up to its moment with it, are the model's choices (log entries 3, 4 and 22),
as is that a START_BIT within a transmission or a cell changes nothing (log entry 7).

The passing of bit times with no event in them: a transmission has sent that many more bits, a cell in progress is
so much older, a resting line's idle run grows up to 24, the cycle's clock and a want run on and a window's expiry
draws nearer, the want and the expiry held as counts of bit times (log entry 9); in INIT nothing passes (R1, R2,
R3, R21, R27, R42). Whether a line held at 0 has come to rest, and for how long, is a free value (log entry 3). On
an empty queue the step takes an event that is due, whichever the model's order puts first, or, with none due, lets
one bit time pass, but for a cell's end, which waits for its command (log entries 1 and 5). -/
def Obligations.StartBitAndLineQuiet : Prop :=
  (∀ s : State,
      s.engine = .init ∨ s.line.tx ≠ none ∨ s.line.cell ≠ none ∨ s.line.rest = .heldAfterBadCell →
      exec .startBit s = .next s)
    ∧ (∀ (s : State) (k : Nat),
      (k = 0 ∨ s.engine = .init → s.elapse k = s)
      ∧ (0 < k → s.engine ≠ .init →
        (∀ x, s.line.tx = some x →
            (s.elapse k).line = { s.line with tx := some { x with sent := x.sent + k } })
        ∧ (∀ age, s.line.tx = none → s.line.cell = some age →
            (s.elapse k).line = { s.line with cell := some (age + k) })
        ∧ (s.line.tx = none → s.line.cell = none → s.line.rest = .resting →
            (s.elapse k).line = { s.line with idleRun := min 24 (s.line.idleRun + k) })
        ∧ (s.line.tx = none → s.line.cell = none → s.line.rest ≠ .resting →
            ∃ rested, rested ≤ k ∧ (s.elapse k).line = { s.line with
              freeIndex := s.line.freeIndex + 1
              rest := if rested = 0 then s.line.rest else .resting
              idleRun := if rested = 0 then s.line.idleRun else min 24 rested })
        ∧ (s.elapse k).cycle = s.cycle.ranOn s.engine k
        ∧ (s.elapse k).context = s.context.map (fun e =>
            { e with expiry := e.expiry.map fun left => left - (k : Int) })
        ∧ { s.elapse k with line := s.line, cycle := s.cycle, context := s.context } = s))
    ∧ (∀ (s : State) (due : Instr → Prop), s.pending = [] →
      (∀ c, due c ↔
        c = .transmissionComplete ∧ (∃ x, s.line.tx = some x ∧ 10 * x.frame.length ≤ x.sent)
        ∨ c = .gapLimitExpiry ∧ s.gapRuns = true ∧ 20 ≤ s.line.idleRun
        ∨ c = .lineQuiet ∧ s.engine ≠ .init ∧ s.line.tx = none ∧ s.line.cell = none ∧ s.line.idleRun = 24
            ∧ s.line.rx.state = .abandoning
        ∨ c = .windowExpiry ∧ s.windowLeft? = some 0
        ∨ c = .markDue ∧ s.dueRuns = true ∧ s.settings.period ≤ s.cycle.clock
        ∨ c = .markBegin ∧ s.markCanBegin = true
        ∨ c = .quietWaitLimit ∧ s.engine ∈ [.starting, .running]
            ∧ (∃ w, s.cycle.want = some w ∧ s.settings.period ≤ w.age)
        ∨ c = .retryOpportunity ∧ s.retryCanRun = true
        ∨ c = .slotOpportunity ∧ s.slotCanRun = true
        ∨ c = .owedSelection ∧ s.selectionCanRun = true) →
      ((∃ c, due c) → ∃ c, due c ∧ step s = exec c s)
      ∧ ((∀ c, ¬ due c) →
        ((∃ age, s.line.cell = some age ∧ 10 ≤ age) → step s = .next s)
        ∧ ((∀ age, s.line.cell = some age → age < 10) → step s = .next (s.elapse 1))))
    ∧ (∀ s : State, s.engine ≠ .init → s.line.tx = none → s.line.cell = none →
      s.line.rest ≠ .heldAfterBadCell →
      exec .startBit s = .next
        { s with line := { s.line with idleRun := 0, rest := .resting, cell := some 0 } })
    ∧ (∀ s : State, s.engine ≠ .init → s.line.tx = none → s.line.cell = none → s.line.rx.state ≠ .inFrame →
      ∃ t, exec .lineQuiet s = .next t ∧ t.line.idleRun = 24 ∧ t.line.rest = .resting
        ∧ t.line.rx = { s.line.rx with state := .idle }
        ∧ t.line = { s.line with
            idleRun := 24, rest := .resting, rx := { s.line.rx with state := .idle }
            freeIndex :=
              if s.line.rest = .resting ∨ 24 ≤ s.line.idleRun then s.line.freeIndex
              else s.line.freeIndex + 1 }
        ∧ t.cycle = s.cycle.ranOn s.engine (24 - s.line.idleRun)
        ∧ { t with line := s.line, cycle := s.cycle, context := s.context } = s
        ∧ t.context = s.context.map fun e =>
            { e with expiry := e.expiry.map fun left => left - ((24 - s.line.idleRun : Nat) : Int) })
    ∧ ∀ (s : State) (age : Nat), s.engine ≠ .init → s.line.tx = none → s.line.cell = some age →
      ∃ t, exec (.cellArrival .bad) s = .next t ∧ t.line.cell = none ∧ t.line.idleRun = 0
        ∧ t.line.rest = .heldAfterBadCell ∧ exec .startBit t = .next t
        ∧ t.line = { s.line with
            cell := none, idleRun := 0, rest := .heldAfterBadCell
            rx := { s.line.rx with
              state :=
                if t.engine ≠ s.engine then .idle
                else if s.engine ≠ .halted ∧ s.line.rx.state = .inFrame then .abandoning
                else s.line.rx.state } }

/-- A frame is abandoned: by GAP_LIMIT_EXPIRY, by the CELL_ARRIVAL of a length byte above 120, and by that of a bad
cell. A frame of foreign traffic and a late frame, while the context is empty or a retry waits in ENDING, are
abandoned with no other effect and no accounting, and the reply of a ring record's try with tries left concludes
FRAMING (R2, R16, R17, R47, R48, R49, R52). The event takes the time up to its moment with it (log entry 4). How
the line stands after a bad cell is the model's field for R3 (log entry 3). -/
def Obligations.GapLimitAbandonsTheFrame : Prop :=
  (∀ s : State, s.gapRuns = true ↔
      s.engine ∈ [.starting, .running, .stopping, .lineFault] ∧ s.line.rx.state = .inFrame
        ∧ s.line.tx = none ∧ s.line.cell = none)
    ∧ (∀ s : State, s.gapRuns = true →
    (s.awaitsNoReply →
      ∃ t, exec .gapLimitExpiry s = .next t
        ∧ t.line = { (s.elapse (20 - s.line.idleRun)).line with rx := { s.line.rx with state := .abandoning } }
        ∧ t.lateFrame = none ∧ t.cycle = s.cycle.ranOn s.engine (20 - s.line.idleRun)
        ∧ { t with line := s.line, cycle := s.cycle, lateFrame := s.lateFrame } = s)
    ∧ ∀ e r i, s.context = some e → e.state = .receiving → s.engine = .running →
      e.source = .ring r i → e.station ≠ 63 → e.orphaned = false → e.tries < 1 + e.retryLimit →
      ∃ t, exec .gapLimitExpiry s = .next t
        ∧ t.line = { (s.elapse (20 - s.line.idleRun)).line with rx := { s.line.rx with state := .abandoning } }
        ∧ t.context = some { e with
            causes := e.causes ||| FaultKind.framing.set
            unaccounted := e.unaccounted ||| FaultKind.framing.set
            last := some .framing, reply := none, expiry := none, state := .ending }
        ∧ t.cycle = s.cycle.ranOn s.engine (20 - s.line.idleRun)
        ∧ { t with line := s.line, cycle := s.cycle, context := s.context } = s)
    ∧ ∀ (s : State) (cell : Cell) (age : Nat) (line : LineUnit), s.engine.delimits = true → s.line.tx = none →
      s.line.cell = some age → s.line.rx.state = .inFrame →
      (cell = .bad ∧ line = { s.line with
            cell := none, idleRun := 0, rest := .heldAfterBadCell
            rx := { s.line.rx with state := .abandoning } }
        ∨ s.line.rx.count = 2 ∧ ∃ b : Byte, cell = .good b ∧ 120 < b.toNat
            ∧ line = { s.line with
              cell := none, idleRun := 0, rest := .resting
              rx := { s.line.rx with
                state := .abandoning, count := 3, crc := crcByte s.line.rx.crc b, length := b } }) →
      (s.awaitsNoReply →
        ∃ t, exec (.cellArrival cell) s = .next t ∧ t.line = line ∧ t.lateFrame = none
          ∧ t.cycle = s.cycle.ranOn s.engine (10 - age)
          ∧ { t with line := s.line, cycle := s.cycle, lateFrame := s.lateFrame } = s)
      ∧ ∀ e r i, s.context = some e → e.state = .receiving → s.engine = .running →
        e.source = .ring r i → e.station ≠ 63 → e.orphaned = false → e.tries < 1 + e.retryLimit →
        ∃ t, exec (.cellArrival cell) s = .next t ∧ t.line = line
          ∧ t.context = some { e with
              causes := e.causes ||| FaultKind.framing.set
              unaccounted := e.unaccounted ||| FaultKind.framing.set
              last := some .framing, reply := none, expiry := none, state := .ending }
          ∧ t.cycle = s.cycle.ranOn s.engine (10 - age)
          ∧ { t with line := s.line, cycle := s.cycle, context := s.context } = s

/-- CELL_ARRIVAL in AWAITING_REPLY with the receiver IDLE: a sync byte is the reply start, even when the expiry
moment has passed during the cell; any other cell leaves the window running, unless the expiry moment has passed
during it: then the try concludes NO_REPLY (R15, R42, R45). The event takes the time up to its moment with it, and
an expiry that falls at the very end of the cell is left to WINDOW_EXPIRY (log entries 4 and 28). How the line
stands after a bad cell is the model's field for R3 (log entry 3), and the expiry is held as the bit times left to
it (log entry 9).

A cell with no effect but on the line and the counts of bit times: any cell in HALTED, any in ABANDONING, 0x96
among them, and in IDLE any but 0x96, while no expiry moment passes during it (R14, R15, R19); and, whatever the
context holds, the header, payload and first check cells of a frame, each taken where R16 places it. While the
transmitter is BUSY a cell changes nothing (R14). With no cell in progress the start bit is taken first where one
can be recognised (log entry 6). -/
def Obligations.SyncByteStartsTheReply : Prop :=
  (∀ x : Engine, x.delimits = true ↔ x ∈ [.starting, .running, .stopping, .lineFault])
    ∧ (∀ (s : State) (cell : Cell),
      (s.line.tx ≠ none
        ∨ s.line.tx = none ∧ s.line.cell = none ∧ (s.engine = .init ∨ s.line.rest = .heldAfterBadCell) →
        exec (.cellArrival cell) s = .next s)
      ∧ (s.engine ≠ .init → s.line.tx = none → s.line.cell = none → s.line.rest ≠ .heldAfterBadCell →
        exec (.cellArrival cell) s = exec (.cellArrival cell)
          { s with line := { s.line with idleRun := 0, rest := .resting, cell := some 0 } }))
    ∧ (∀ (s : State) (cell : Cell) (age : Nat) (rx : Receiver),
      s.engine ≠ .init → s.line.tx = none → s.line.cell = some age →
      (rx = s.line.rx ∧ (s.engine = .halted
          ∨ (s.line.rx.state = .abandoning ∨ s.line.rx.state = .idle ∧ cell ≠ .good 0x96)
            ∧ ∀ e left, s.context = some e → e.state = .awaitingReply → e.expiry = some left →
              ((10 - age : Nat) : Int) ≤ left)
        ∨ s.engine ≠ .halted ∧ s.line.rx.state = .inFrame ∧ ∃ b : Byte, cell = .good b
          ∧ (s.line.rx.count = 0
              ∧ rx = { s.line.rx with count := 1, crc := crcByte s.line.rx.crc b, addressKind := b }
            ∨ s.line.rx.count = 1
              ∧ rx = { s.line.rx with count := 2, crc := crcByte s.line.rx.crc b, control := b }
            ∨ s.line.rx.count = 2 ∧ b.toNat ≤ 120
              ∧ rx = { s.line.rx with count := 3, crc := crcByte s.line.rx.crc b, length := b }
            ∨ 3 ≤ s.line.rx.count ∧ s.line.rx.count < 3 + s.line.rx.length.toNat
              ∧ rx = { s.line.rx with
                count := s.line.rx.count + 1, crc := crcByte s.line.rx.crc b
                staging := s.line.rx.staging ++ [b] }
            ∨ 3 ≤ s.line.rx.count ∧ s.line.rx.count = 3 + s.line.rx.length.toNat
              ∧ rx = { s.line.rx with count := s.line.rx.count + 1, checkHigh := b })) →
      ∃ t, exec (.cellArrival cell) s = .next t
        ∧ t.line = { s.line with
            cell := none, idleRun := 0, rest := if cell = .bad then .heldAfterBadCell else .resting, rx := rx }
        ∧ t.cycle = s.cycle.ranOn s.engine (10 - age)
        ∧ t.context = s.context.map (fun e =>
            { e with expiry := e.expiry.map fun left => left - ((10 - age : Nat) : Int) })
        ∧ { t with line := s.line, cycle := s.cycle, context := s.context } = s)
    ∧ ∀ (s : State) (e : Exchange) (age : Nat),
    s.engine.delimits = true → s.line.tx = none → s.line.cell = some age → s.line.rx.state = .idle →
    s.context = some e → e.state = .awaitingReply →
    (∃ t, exec (.cellArrival (.good 0x96)) s = .next t
      ∧ t.context = some { e with state := .receiving, expiry := none }
      ∧ t.line = { s.line with
          cell := none, idleRun := 0, rest := .resting,
          rx := { s.line.rx with state := .inFrame, count := 0, crc := 0xFFFF, staging := [] } }
      ∧ t.cycle = s.cycle.ranOn s.engine (10 - age)
      ∧ { t with line := s.line, cycle := s.cycle, context := s.context, lateFrame := s.lateFrame } = s)
    ∧ ∀ (cell : Cell) (left : Int), cell ≠ .good 0x96 → e.expiry = some left →
      (((10 - age : Nat) : Int) ≤ left →
        ∃ t, exec (.cellArrival cell) s = .next t
          ∧ t.context = some { e with expiry := some (left - ((10 - age : Nat) : Int)) }
          ∧ t.line = { s.line with
              cell := none, idleRun := 0
              rest := if cell = .bad then .heldAfterBadCell else .resting }
          ∧ t.cycle = s.cycle.ranOn s.engine (10 - age)
          ∧ { t with line := s.line, cycle := s.cycle, context := s.context } = s)
      ∧ ∀ r i, left < ((10 - age : Nat) : Int) → s.engine = .running → e.source = .ring r i →
        e.station ≠ 63 → e.orphaned = false → e.tries < 1 + e.retryLimit →
        ∃ t, exec (.cellArrival cell) s = .next t
          ∧ t.context = some { e with
              causes := e.causes ||| FaultKind.noReply.set
              unaccounted := e.unaccounted ||| FaultKind.noReply.set
              last := some .noReply, reply := none, expiry := none, state := .ending }
          ∧ t.line = { s.line with
              cell := none, idleRun := 0
              rest := if cell = .bad then .heldAfterBadCell else .resting }
          ∧ t.lateWatch = some e.station ∧ t.cycle = s.cycle.ranOn s.engine (10 - age)
          ∧ { t with
                line := s.line, cycle := s.cycle, context := s.context, lateWatch := s.lateWatch } = s

/-- The cells of one frame that is no reply, taken while the context is empty or a retry waits in ENDING. Received
whole: a late watch on the frame's address makes the LATE_REPLY accounting when the check bytes agree, and
otherwise, with other check bytes among them, the frame changes nothing but the line, the late watch and the counts
of bit times. Broken off after any of its cells, by the gap limit, a bad cell or a length byte above 120, it ends
the late watch with no accounting (R5, R15, R16, R17, R18, R48, R49, R155). Cells whose start bits are not
commanded take them with them (log entries 4 and 6). How the line stands after a bad cell, and that cells are taken
on a line held after a cut, are the model's field for R3 and its reading (log entries 3 and 22). The bytes of a
frame: sync 0x96; byte 1, the kind in bits 7..6 and the address below; byte 2; the length byte; the payload; and
the two check bytes, high byte first, of the CRC that takes the three header bytes and the payload bit by bit, each
byte's most significant bit first, into a register that starts at 0xFFFF. A mark's payload is its number, low byte
first, and its page; a request's byte 2 holds tag, STALE and function, and a STALE one carries no payload; a roll
call's byte 2 and length are 0. While a transmission is in progress transmit enable is asserted and the bit on the
line is that of the cell being sent: start bit 0, the data bits from the least significant, stop bit 1 (R1, R4, R5,
R6, R7, R8, R196; byte 1 of the mark by log entry 23). -/
def Obligations.WholeFrameOutsideAnExchange : Prop :=
  (∀ (kind : FrameKind) (a : Address) (control : Byte) (payload : List Byte) (high low : Byte) (cells : List Byte)
    (s : State),
    payload.length ≤ 120 → s.engine.delimits = true → s.line.tx = none → s.line.cell = none →
    s.line.rest ≠ .heldAfterBadCell → s.line.rx.state = .idle → s.awaitsNoReply →
    cells = (frameBytes kind a control payload).take (4 + payload.length) ++ [high, low] →
    (∃ t,
      runCommands (cells.map fun b => .cellArrival (.good b)) s = .next t
      ∧ t.line.rx.state = .idle
      ∧ t.line.rx.report true =
          { kind := kind, address := a, tag := control.extractLsb' 0 3, bit3 := control.getLsbD 3,
            upper := control.extractLsb' 4 4, payload := payload, good := true }
      ∧ { t.line with rx := s.line.rx } = { s.line with idleRun := 0, rest := .resting }
      ∧ t.cycle = s.cycle.ranOn s.engine (10 * (6 + payload.length))
      ∧ { t with line := s.line, cycle := s.cycle } =
          if s.lateWatch = some a ∧ cells = frameBytes kind a control payload then
            State.account { s with lateWatch := none, lateFrame := none } a FaultKind.lateReply.set
              { Entry.blank .alert 0 0 with late := true }
          else { s with lateWatch := none, lateFrame := none })
    ∧ ∀ (k bits : Nat) (c : Instr), 1 ≤ k → k < 6 + payload.length →
      (c = .gapLimitExpiry ∧ bits = 20 ∨ c = .cellArrival .bad ∧ bits = 10
        ∨ k = 3 ∧ bits = 10 ∧ ∃ b : Byte, 120 < b.toNat ∧ c = .cellArrival (.good b)) →
      ∃ t,
        runCommands (((cells.take k).map fun b => .cellArrival (.good b)) ++ [c]) s = .next t
        ∧ t.line.rx.state = .abandoning
        ∧ { t.line with rx := s.line.rx } = { s.line with
            idleRun := if c = .gapLimitExpiry then 20 else 0
            rest := if c = .cellArrival .bad then .heldAfterBadCell else .resting }
        ∧ t.cycle = s.cycle.ranOn s.engine (10 * k + bits)
        ∧ { t with line := s.line, cycle := s.cycle } = { s with lateWatch := none, lateFrame := none })
    ∧ (∀ (kind : FrameKind) (a : Address) (control : Byte) (payload : List Byte) (header : List Byte)
        (check : BitVec 16),
      header =
        [BitVec.ofNat 8
            (64 * (match kind with | .mark => 0 | .request => 1 | .reply => 2 | .roll => 3) + a.toNat),
          control, BitVec.ofNat 8 payload.length] →
      check =
        ((header ++ payload).flatMap fun b => (List.range 8).map fun i => b.getLsbD (7 - i)).foldl
          (fun (register : BitVec 16) (bit : Bool) =>
            if register.msb = bit then register <<< 1 else register <<< 1 ^^^ 0x1021#16)
          0xFFFF#16 →
      frameBytes kind a control payload =
        [0x96] ++ header ++ payload
          ++ [BitVec.ofNat 8 (check.toNat / 256), BitVec.ofNat 8 (check.toNat % 256)])
    ∧ (∀ (start : BitVec 16) (b : Byte),
      crcByte start b =
        ((List.range 8).map fun i => b.getLsbD (7 - i)).foldl
          (fun (register : BitVec 16) (bit : Bool) =>
            if register.msb = bit then register <<< 1 else register <<< 1 ^^^ 0x1021#16)
          start)
    ∧ (∀ (number : BitVec 16) (page : PageNumber),
      markFrame number page =
        frameBytes .mark 63 0
          [BitVec.ofNat 8 (number.toNat % 256), BitVec.ofNat 8 (number.toNat / 256),
            match page with | .zero => 0 | .one => 1])
    ∧ (∀ (a : Address) (tag : BitVec 3) (stale : Bool) (function : BitVec 4) (payload : List Byte),
      requestFrame a tag stale function payload =
        frameBytes .request a
          (BitVec.ofNat 8 (tag.toNat + (if stale then 8 else 0) + 16 * function.toNat))
          (if stale then [] else payload))
    ∧ (∀ a : Address, rollFrame a = frameBytes .roll a 0 [])
    ∧ ∀ s : State,
      (s.line.tx = none → s.transmitEnable = false ∧ s.transmitData = none)
      ∧ ∀ (x : Transmission) (j k : Nat), s.line.tx = some x → x.sent = 10 * j + k → j < x.frame.length → k < 10 →
        s.transmitEnable = true
          ∧ s.transmitData = some
              (if k = 0 then false else if k = 9 then true else (x.frame.getD j 0).getLsbD (k - 1))

/-- CELL_ARRIVAL of the last check byte of a good reply. Of a slot's: the in-area takes the payload and no other
byte of the exchange memory changes; with the hold flag set, none does (R46, R57, R75, R103, R104, R105). Of a ring
record's: the record completes OK with the reply, and its write-back is issued, a DATA_WRITE of the payload to its
in buffer and then the STATUS_WRITE (R57, R125, R126). Of an orphaned exchange: the result is discarded (R64).
Supervision, accounting and the SLOT entry come in this order (R57, R106, R152), and in STOPPING the engine halts
after them within the event (R184, R188). The event takes the time up to its moment with it (log entry 4), the walk
moves past the slots not due within it (R31; log entries 10 and 17), and that the selection point of R33 makes a
selection owed only when no mark is wanted is the model's reading (log entry 11). -/
def Obligations.GoodReplyFillsTheInArea : Prop :=
  ∀ (s u : State) (e : Exchange) (b : Byte) (age : Nat) (f : FrameReport) (warn : KindSet),
    (s.engine = .running ∨ s.engine = .stopping) → s.line.tx = none → s.line.cell = some age →
    s.line.rx.state = .inFrame → s.line.rx.count = 4 + s.line.rx.length.toNat →
    s.line.rx.checkHigh ++ b = s.line.rx.crc →
    f = s.line.rx.report true →
    s.context = some e → e.state = .receiving →
    1 ≤ e.station.toNat → e.station.toNat ≤ 62 →
    f.kind = .reply → f.address = e.station → f.tag = e.tag → f.payload.length ≤ e.inCapacity →
    f.upper.toNat ≤ 1 →
    warn = (if f.upper = 1 then FaultKind.warn.set else 0) →
    u = { (s.supervise e.station true).afterAccounting e.source e.station (e.unaccounted ||| warn) with
      cycle := s.cycle.ranOn s.engine (10 - age)
      line := { s.line with
        cell := none, idleRun := 0, rest := .resting, rx := { s.line.rx with state := .idle } } } →
    (∀ (i : Fin 32) (result : Result), e.source = .slot i → s.exmem.wf = true →
    (s.schedule.activePage[i]).inOffset.toNat + f.payload.length ≤ 4096 →
    result = (if s.schedule.held i then .okHeld else .ok) →
    ∃ t, exec (.cellArrival (.good b)) s = .next t
      ∧ t.closes (u.afterSlotResult i result (e.causes ||| warn)) (u.cycle.walkedOn (s.dueSlotFrom (i.val + 1)))
      ∧ (∀ a, a < 4096 →
          t.exmem.byteAt a =
            if s.schedule.held i = false ∧ (s.schedule.activePage[i]).inOffset.toNat ≤ a
                ∧ a < (s.schedule.activePage[i]).inOffset.toNat + f.payload.length then
              f.payload.getD (a - (s.schedule.activePage[i]).inOffset.toNat) 0
            else s.exmem.byteAt a)
      ∧ ((s.station e.station).state.inService = true →
          (t.station e.station).state = .active ∧ (t.station e.station).missCount = 0)
      ∧ (∀ a, a ≠ e.station → t.station a = s.station a)
      ∧ t.keepsRings s ∧ State.keepsRest { t with exmem := s.exmem } s)
    ∧ (∀ r i record, e.source = .ring r i → e.orphaned = false → (s.ringUnit r).current = some record →
      ∃ t, exec (.cellArrival (.good b)) s = .next t ∧ t.closes u u.cycle.selecting
        ∧ s.completes t r { e with causes := e.causes ||| warn } record .ok
            (some { condition := f.upper, payload := f.payload })
        ∧ ((s.station e.station).state.inService = true →
            (t.station e.station).state = .active ∧ (t.station e.station).missCount = 0)
        ∧ (∀ a, a ≠ e.station → t.station a = s.station a)
        ∧ t.keepsRest s)
    ∧ ∀ r i, e.source = .ring r i → e.orphaned = true →
      ∃ t, exec (.cellArrival (.good b)) s = .next t ∧ t.closes u u.cycle.selecting
        ∧ t.keepsRings s ∧ t.keepsRest s

/-- ECHO_MISMATCH on a mark: the cycle number returns to its old value; below the fourth cut it is wanted again, or
in STOPPING the engine halts; the fourth cut in a row is the line fault, with its entry and flag (R10, R13, R26,
R163, R184, R186, R188). How the line stands after a cut is the model's reading (log entry 22), and the want is
held with its age (log entry 9). -/
def Obligations.EchoMismatchCutsAMark : Prop :=
  ∀ (s v : State) (x : Transmission) (old : BitVec 16),
    s.line.tx = some x → x.user = .mark → s.cycle.oldNumber = some old → s.context = none →
    v = { s with
      line := { s.line with
        tx := none, idleRun := 0, rest := .heldAfterCut, cell := none
        streak := min 4 (s.line.streak + 1), rx := { s.line.rx with state := .abandoning } }
      cycle := { s.cycle with number := old, oldNumber := none } } →
    (s.line.streak < 3 → s.engine = .running →
      exec .echoMismatch s = .next
        { v with cycle := { v.cycle with want := some { cause := .cut, age := 0 } } })
    ∧ (s.line.streak < 3 → s.engine = .stopping →
      ∃ t, exec .echoMismatch s = .next t ∧ t.closes v v.cycle ∧ t.flag .halted = true
        ∧ t.keepsRings s ∧ t.keepsRest s)
    ∧ (3 ≤ s.line.streak →
      ∃ t, exec .echoMismatch s = .next t ∧ t.faults v 1 ∧ t.line.streak = 4 ∧ t.flag .line = true
        ∧ t.keepsRings s ∧ t.keepsRest s)

/-- ECHO_MISMATCH on a try: below the fourth cut a ring record with tries left waits for its retry, and any other
try ends its exchange COLLISION, a broadcast's with no supervision and no accounting and a roll call with no
effect; in STOPPING the record with tries left returns to staging, and the engine halts within the event. At the
fourth cut, in either state, the engine enters LINE_FAULT and the exchange ends LINE_FAULT, with no supervision; an
orphaned exchange's result is discarded (R43, R52, R54, R57, R58, R59, R62, R64, R106, R152, R163, R184, R186,
R188). How the line stands after a cut is the model's reading (log entry 22), the walk moves past the slots not due
within the event (R31; log entries 10 and 17), and that the selection point of R33 makes a selection owed only when
no mark is wanted is the model's reading (log entry 11). -/
def Obligations.EchoMismatchCutsATry : Prop :=
  ∀ (s u v : State) (x : Transmission) (e : Exchange) (causes unaccounted : KindSet) (line : LineUnit),
    s.line.tx = some x → x.user = .attempt → s.context = some e →
    (s.engine = .running ∨ s.engine = .stopping) →
    causes = e.causes ||| FaultKind.collision.set → unaccounted = e.unaccounted ||| FaultKind.collision.set →
    line = { s.line with
      tx := none, idleRun := 0, rest := .heldAfterCut, cell := none,
      streak := min 4 (s.line.streak + 1), rx := { s.line.rx with state := .abandoning } } →
    u = { (if e.station = 63 then s else s.supervise e.station e.answered).afterAccounting e.source e.station
      unaccounted with line := line } →
    v = { s.afterAccounting e.source e.station unaccounted with line := line } →
    (∀ r i, s.line.streak < 3 → s.engine = .running → e.source = .ring r i → e.station ≠ 63 →
      e.orphaned = false → e.tries < 1 + e.retryLimit →
      exec .echoMismatch s = .next { s with
        line := line
        context := some { e with
          causes := causes, unaccounted := unaccounted, last := some .collision, reply := none, expiry := none
          state := .ending } })
    ∧ (∀ r i record, s.line.streak < 3 → s.engine = .stopping → e.source = .ring r i → e.station ≠ 63 →
      e.orphaned = false → e.tries < 1 + e.retryLimit → (s.ringUnit r).current = some record →
      ∃ t, exec .echoMismatch s = .next t ∧ t.closes u u.cycle
        ∧ s.restages t r { e with causes := causes } record ∧ t.keepsRest s)
    ∧ (∀ r i record, s.line.streak < 3 → e.source = .ring r i → e.orphaned = false →
      (e.station = 63 ∨ 1 + e.retryLimit ≤ e.tries) → (s.ringUnit r).current = some record →
      ∃ t, exec .echoMismatch s = .next t ∧ t.closes u u.cycle.selecting
        ∧ s.completes t r { e with causes := causes } record .collision none ∧ t.keepsRest s)
    ∧ (∀ r i, s.line.streak < 3 → e.source = .ring r i → e.orphaned = true →
      ∃ t, exec .echoMismatch s = .next t ∧ t.closes u u.cycle.selecting ∧ t.keepsRings s ∧ t.keepsRest s)
    ∧ (∀ i : Fin 32, s.line.streak < 3 → e.source = .slot i → e.station ≠ 63 →
      ∃ t, exec .echoMismatch s = .next t
        ∧ t.closes (u.afterSlotResult i .collision causes) (u.cycle.walkedOn (s.dueSlotFrom (i.val + 1)))
        ∧ t.keepsRings s ∧ t.keepsRest s)
    ∧ (s.line.streak < 3 → e.source = .rollCall →
      ∃ t, exec .echoMismatch s = .next t ∧ t.closes { s with line := line } s.cycle.selecting
        ∧ t.keepsRings s ∧ t.keepsRest s)
    ∧ (∀ r i record, 3 ≤ s.line.streak → e.source = .ring r i → e.orphaned = false →
      (s.ringUnit r).current = some record →
      ∃ t, exec .echoMismatch s = .next t ∧ t.faults v 1 ∧ t.line.streak = 4
        ∧ s.completes t r { e with causes := causes } record .lineFault none ∧ t.keepsRest s)
    ∧ (∀ r i, 3 ≤ s.line.streak → e.source = .ring r i → e.orphaned = true →
      ∃ t, exec .echoMismatch s = .next t ∧ t.faults v 1 ∧ t.line.streak = 4
        ∧ t.keepsRings s ∧ t.keepsRest s)
    ∧ (∀ i : Fin 32, 3 ≤ s.line.streak → e.source = .slot i →
      ∃ t, exec .echoMismatch s = .next t ∧ t.faults (v.afterSlotResult i .lineFault causes) 1
        ∧ t.line.streak = 4 ∧ t.flag .line = true
        ∧ (∀ a, (t.station a).state = (s.station a).state
            ∧ (t.station a).missCount = (s.station a).missCount)
        ∧ (∀ a, a ≠ e.station → t.station a = s.station a)
        ∧ t.keepsRings s ∧ t.keepsRest s)
    ∧ (3 ≤ s.line.streak → e.source = .rollCall →
      ∃ t, exec .echoMismatch s = .next t ∧ t.faults { s with line := line } 1
        ∧ t.keepsRings s ∧ t.keepsRest s)

/-- TRANSMISSION_COMPLETE: a mark opens the walk, or in STOPPING halts the engine; a request or a roll call starts
its window; a broadcast ends SENT and its write-back is issued, or its result is discarded when it is orphaned, and
in STOPPING the engine halts after it within the event (R11, R25, R31, R42, R58, R59, R64, R125, R126, R184, R188).
The event takes the time up to its moment with it (log entry 4). R25 has the walk at slot 0; that the same event
moves it past the slots not due is the model's choice (log entries 10 and 17), as is the expiry held as the bit
times left to it (log entry 9), and that the selection point of R33 makes a selection owed only when no mark is
wanted is its reading (log entry 11). -/
def Obligations.TransmissionCompletes : Prop :=
  ∀ (s v : State) (x : Transmission), s.line.tx = some x →
    v = { s with
      cycle := s.cycle.ranOn s.engine (10 * x.frame.length - x.sent)
      line := { s.line with tx := none, idleRun := 0, rest := .resting, cell := none, streak := 0 } } →
    ∃ t, exec .transmissionComplete s = .next t ∧ t.line.tx = none ∧ t.line.streak = 0
      ∧ t.line.idleRun = 0
      ∧ (x.user = .mark → s.context = none → s.engine = .running →
          t.cycle.number = s.cycle.number ∧ t.cycle.oldNumber = none
          ∧ t.cycle.walk = s.dueSlotFrom 0
          ∧ t.cycle.phase = (if (s.dueSlotFrom 0).isSome then .cyclic else .opened)
          ∧ (s.dueSlotFrom 0 = none → t.cycle.owed = s.cycle.want.isNone)
          ∧ t.cycle = ({ v.cycle with oldNumber := none, phase := .cyclic, walk := some 0 }).walkedOn
              (s.dueSlotFrom 0)
          ∧ t.line = v.line ∧ { t with line := s.line, cycle := s.cycle } = s)
      ∧ (x.user = .mark → s.context = none → s.engine = .stopping →
          t.closes { v with cycle := { v.cycle with oldNumber := none, phase := .cyclic, walk := some 0 } } v.cycle
          ∧ t.cycle.number = s.cycle.number ∧ t.flag .halted = true ∧ t.keepsRings s ∧ t.keepsRest s)
      ∧ (∀ e, x.user = .attempt → s.context = some e → (e.source = .rollCall ∨ e.station ≠ 63) →
          t.context = some { e with state := .awaitingReply, expiry := some (e.window : Int) }
          ∧ t.cycle = v.cycle ∧ t.line = v.line
          ∧ { t with line := s.line, cycle := s.cycle, context := s.context } = s)
      ∧ ∀ e r i, x.user = .attempt → s.context = some e → e.source = .ring r i → e.station = 63 →
          (s.engine = .running ∨ s.engine = .stopping) →
          (∀ record, e.orphaned = false → (s.ringUnit r).current = some record →
            t.closes v v.cycle.selecting ∧ s.completes t r e record .sent none ∧ t.keepsRest s)
          ∧ (e.orphaned = true → t.closes v v.cycle.selecting ∧ t.keepsRings s ∧ t.keepsRest s)

/-! ### Events of the cycle -/

/-- MARK_DUE: the mark is wanted from the moment the clock reaches P, an owed selection is dropped, and an
unfinished walk closes, each slot left that is due and not in flight completing SKIPPED_CUTOFF, with the SLOT
entries in slot order. An exchange in flight runs on, its expiry nearer by the bit times that pass (R23, R32, R42,
R106). The event takes the time up to its moment with it (log entry 4), and a line held in it comes to rest by a
free value (log entry 3). The want is held with its age and the expiry as the bit times left to it (log entry 9),
and that a slot of rate 0, which no validated page has enabled, is in no cycle due is the model's choice (log entry
17). -/
def Obligations.MarkDueClosesTheWalk : Prop :=
  (∀ s : State, s.dueRuns = true ↔
      s.engine = .running ∧ s.cycle.want = none ∧ ∀ x, s.line.tx = some x → x.user ≠ .mark)
    ∧ ∀ (s : State) (left : Fin 32 → Bool),
    s.dueRuns = true → s.cycle.clock ≤ s.settings.period → s.settings.period ≤ 2097151 →
    ∃ t, exec .markDue s = .next t ∧ t.cycle.want = some { cause := .due, age := 0 }
      ∧ t.cycle.owed = false ∧ t.cycle.clock = s.settings.period ∧ t.cycle.lateMarks = s.cycle.lateMarks
      ∧ t.context = s.context.map (fun e => { e with
          expiry := e.expiry.map fun left => left - ((s.settings.period - s.cycle.clock : Nat) : Int) })
      ∧ t.line = (s.elapse (s.settings.period - s.cycle.clock)).line
      ∧ { t.cycle with phase := s.cycle.phase, walk := s.cycle.walk } = { s.cycle with
          clock := s.settings.period, want := some { cause := .due, age := 0 }, owed := false }
      ∧ { t with
            line := s.line, cycle := s.cycle, context := s.context, schedule := s.schedule,
            queue := s.queue, host := s.host } = s
      ∧ { t.schedule with status := s.schedule.status } = s.schedule
      ∧ (s.cycle.phase ≠ .cyclic ∨ s.cycle.walk = none →
          t.cycle.phase = s.cycle.phase ∧ t.cycle.walk = s.cycle.walk
            ∧ { t with line := s.line, cycle := s.cycle, context := s.context } = s)
      ∧ ∀ w, s.cycle.phase = .cyclic → s.cycle.walk = some w →
          (∀ i : Fin 32, left i = true ↔
            w ≤ i ∧ (s.schedule.activePage[i]).enable = true ∧ (s.schedule.activePage[i]).rate ≠ 0
              ∧ s.cycle.number.toNat % (s.schedule.activePage[i]).rate.toNat
                  = (s.schedule.activePage[i]).phase.toNat
              ∧ ∀ e, s.context = some e → e.source ≠ .slot i) →
          t.cycle.phase = .opened ∧ t.cycle.walk = none
          ∧ (∀ i : Fin 32,
              t.schedule.status[i] =
                if left i = true then some { result := .skippedCutoff, cycle := s.cycle.number }
                else s.schedule.status[i])
          ∧ t.handsOn
              (((List.finRange 32).filter left).foldl (fun u i => u.afterSlotEntry i .skippedCutoff 0) s)

/-- MARK_BEGIN: what the beginning of a mark's transmission does (R21, R23, R24, R98, R99, R181).
Byte 1 of the mark follows the frame layout (log entry 23), and the want is held with its age (log entry 9). -/
def Obligations.MarkBeginOpensTheCycle : Prop :=
  ∀ (s : State) (w : MarkWant), s.markCanBegin = true → s.cycle.want = some w →
    ∃ t, exec .markBegin s = .next t ∧ t.engine = .running
      ∧ t.cycle = { s.cycle with
          clock := 0, number := s.cycle.number + 1, oldNumber := some s.cycle.number
          lateMarks :=
            if w.cause = .due ∧ 0 < w.age then min 65535 (s.cycle.lateMarks + 1) else s.cycle.lateMarks
          phase := .mark, want := none, walk := some 0, owed := false, rollDone := false }
      ∧ t.line = s.line.sending .mark (markFrame (s.cycle.number + 1) t.schedule.active)
      ∧ t.lateWatch = none ∧ t.flag .mark = true
      ∧ (t.queue.entries ≠ [] → t.flag .notify = true)
      ∧ (∀ p, p =
            (if s.schedule.swapPending = true then
              s.post { Entry.blank .swapDone 0 s.cycle.number with
                index := BitVec.ofNat 8 s.schedule.active.other.code }
            else s) →
          t.handsOn (if p.queue.entries = [] then p.raise .mark else (p.raise .mark).raise .notify))
      ∧ (s.schedule.swapPending = false → t.schedule = s.schedule ∧ t.queue = s.queue)
      ∧ (s.schedule.swapPending = true →
          t.schedule = { s.schedule with
            active := s.schedule.active.other, status := Vector.replicate 32 none, swapPending := false }
          ∧ t.queue =
            (s.post { Entry.blank .swapDone 0 s.cycle.number with
              index := BitVec.ofNat 8 s.schedule.active.other.code }).queue)
      ∧ { t with
            engine := s.engine, line := s.line, cycle := s.cycle, schedule := s.schedule, queue := s.queue,
            host := s.host, lateWatch := s.lateWatch } = s

/-- QUIET_WAIT_LIMIT: the want that has lasted P bit times is the line fault of code 2; an exchange in the context
ends LINE_FAULT at that moment, with no supervision, with its accounting, its source's result and a slot's SLOT
entry before the LINE_FAULT entry, and an orphaned one's or a roll call's result goes nowhere (R27, R62, R64, R106,
R152, R163, R186). The event takes the time up to its moment with it (log entry 4), and a line held in it comes to
rest by a free value (log entry 3). The want is held with its age (log entry 9). -/
def Obligations.QuietWaitLimitIsALineFault : Prop :=
  ∀ (s v : State) (w : MarkWant) (k : Nat),
    (s.engine = .starting ∨ s.engine = .running) → s.cycle.want = some w → k = s.settings.period - w.age →
    v = { s with cycle := s.cycle.ranOn s.engine k, line := (s.elapse k).line } →
    ∃ t, exec .quietWaitLimit s = .next t ∧ t.engine = .lineFault ∧ t.context = none
      ∧ t.cycle = { s.cycle.ranOn s.engine k with want := none, owed := false }
      ∧ t.flag .line = true ∧ t.keepsRest s
      ∧ (s.context = none → t.faults v 2 ∧ t.keepsRings s)
      ∧ ∀ e u, s.context = some e → u = v.afterAccounting e.source e.station e.unaccounted →
        (∀ i : Fin 32, e.source = .slot i →
          t.faults (u.afterSlotResult i .lineFault e.causes) 2 ∧ t.keepsRings s)
        ∧ (∀ r i record, e.source = .ring r i → e.orphaned = false → (s.ringUnit r).current = some record →
          t.faults u 2 ∧ s.completes t r e record .lineFault none)
        ∧ (∀ r i, e.source = .ring r i → e.orphaned = true → t.faults u 2 ∧ t.keepsRings s)
        ∧ (e.source = .rollCall → t.faults v 2 ∧ t.keepsRings s)

/-- SLOT_OPPORTUNITY of a slot that completes without bus time: the tests in order, the status entry, the SLOT
entry by the report mode, no transmission, no supervision, and the walk moves on (R31, R102, R104, R105, R106). One
event takes one slot (log entry 10).

The walk's slot is the lowest index from its position on whose slot is enabled and due in the cycle, number mod
rate being the phase (R31, R91; a rate of 0, which no validated page has, is never due, log entry 17), and a slot
is held by its bit of the HOLD mask (R101). -/
def Obligations.SlotCompletesWithoutBusTime : Prop :=
  (∀ (s : State) (start : Nat) (due : Fin 32 → Prop),
      (∀ i, due i ↔
        (s.schedule.activePage[i]).enable = true ∧ (s.schedule.activePage[i]).rate ≠ 0
          ∧ s.cycle.number.toNat % (s.schedule.activePage[i]).rate.toNat
              = (s.schedule.activePage[i]).phase.toNat) →
      (∀ i : Fin 32, s.dueSlotFrom start = some i ↔
        start ≤ i.val ∧ due i ∧ ∀ j : Fin 32, start ≤ j.val → j < i → ¬ due j)
      ∧ (s.dueSlotFrom start = none ↔ ∀ i : Fin 32, start ≤ i.val → ¬ due i))
    ∧ (∀ (x : Schedule) (i : Fin 32), x.held i = decide (x.hold.toNat / 2 ^ i.val % 2 = 1))
    ∧ ∀ (s : State) (start i : Fin 32) (slot : Slot) (nout budget : Nat) (result : Result),
    s.slotCanRun = true → s.cycle.walk = some start → s.dueSlotFrom start.val = some i →
    slot = s.schedule.activePage[i] →
    nout = (if s.schedule.held i then 0 else slot.outLength.toNat) →
    budget = 10 * (12 + nout + slot.inCapacity.toNat) + (s.station slot.station).window →
    ((s.station slot.station).state = .lost ∧ result = .stationLost
      ∨ (s.station slot.station).state ∈ [.absent, .joining, .barred] ∧ result = .notActive
      ∨ (s.station slot.station).state ∈ [.active, .suspect]
          ∧ (s.station slot.station).maxPayload < nout ∧ result = .tooLong
      ∨ (s.station slot.station).state ∈ [.active, .suspect]
          ∧ nout ≤ (s.station slot.station).maxPayload
          ∧ s.settings.period < s.cycle.clock + budget + s.settings.guard ∧ result = .skippedCutoff) →
    ∃ t, exec .slotOpportunity s = .next t
      ∧ t.schedule = { s.schedule with
          status := s.schedule.status.set i (some { result := result, cycle := s.cycle.number }) }
      ∧ t.cycle.walk = s.dueSlotFrom (i.val + 1)
      ∧ t.cycle.phase = (if (s.dueSlotFrom (i.val + 1)).isSome then .cyclic else .opened)
      ∧ (s.dueSlotFrom (i.val + 1) = none → t.cycle.owed = true)
      ∧ t.cycle = s.cycle.walkedOn (s.dueSlotFrom (i.val + 1))
      ∧ t.handsOn (s.afterSlotEntry i result 0)
      ∧ { t with cycle := s.cycle, schedule := s.schedule, queue := s.queue, host := s.host } = s

/-- SLOT_OPPORTUNITY of a slot whose tests pass: its one try begins, with the out-area copied, or STALE and without
data under the hold flag (R31, R40, R41, R50, R102, R109). One event takes one slot (log entry 10), and a slot of
rate 0 is never the walk's (log entry 17).

The out-area's copy is its out length bytes, byte j that at the out offset plus j, within the memory (R4, R102,
R109); past its end, where no validated page has an area, offsets wrap (log entry 17). -/
def Obligations.SlotTryBegins : Prop :=
  (∀ (m : Memory) (offset length : Nat),
      (m.bytesAt offset length).length = length
        ∧ ∀ j, j < length → offset + j < 4096 → (m.bytesAt offset length).getD j 0 = m.byteAt (offset + j))
    ∧ ∀ (s : State) (start i : Fin 32) (slot : Slot) (out : List Byte),
    s.slotCanRun = true → s.cycle.walk = some start → s.dueSlotFrom start.val = some i →
    slot = s.schedule.activePage[i] →
    out = (if s.schedule.held i then [] else s.exmem.bytesAt slot.outOffset.toNat slot.outLength.toNat) →
    (s.station slot.station).state ∈ [.active, .suspect] →
    out.length ≤ (s.station slot.station).maxPayload →
    s.cycle.clock + (10 * (12 + out.length + slot.inCapacity.toNat) + (s.station slot.station).window)
      + s.settings.guard ≤ s.settings.period →
    ∃ t, exec .slotOpportunity s = .next t
      ∧ t.context = some
          { source := .slot i, station := slot.station, tag := (s.station slot.station).nextTag,
            function := slot.function, stale := s.schedule.held i, outData := out,
            inCapacity := slot.inCapacity.toNat, retryLimit := 0, tries := 1,
            window := (s.station slot.station).window, expiry := none, causes := 0, unaccounted := 0,
            answered := false, reissued := false, orphaned := false, last := none, reply := none,
            state := .transmitting }
      ∧ t.line = s.line.sending .attempt
          (requestFrame slot.station (s.station slot.station).nextTag (s.schedule.held i) slot.function out)
      ∧ t.station slot.station =
          { s.station slot.station with nextTag := (s.station slot.station).nextTag + 1 }
      ∧ (∀ a, a ≠ slot.station → t.station a = s.station a)
      ∧ t.cycle = { s.cycle with walk := some i } ∧ t.lateWatch = none
      ∧ { t with
            line := s.line, cycle := s.cycle, context := s.context, stations := s.stations,
            lateWatch := s.lateWatch } = s

/-- OWED_SELECTION: ring U's fitting record goes first; ring N's goes when ring U has no staged record that can go,
and when ring U's is completed by its tests. The chosen record's whole exchange begins, with the tag, the window
and the progress that the rules give it. A record that its tests complete is written back, its STATUS_WRITE behind
the requests waiting, whether or not ring N's goes; and with nothing chosen and no roll call to make, nothing else
happens (R28, R29, R34, R35, R36, R40, R41, R50, R51, R55, R58, R123, R126). Where both rings' records complete,
R136 leaves the order of their STATUS_WRITEs open: it is a free value (log entry 30), and the statement holds for
either. A broadcast has no window (R41), which its exchange holds as 0, the model's choice (log entry 31). -/
def Obligations.OpenPhaseChoiceTakesTheRingsInOrder : Prop :=
  ∀ (s : State) (u n : RingRecord), s.selectionCanRun = true →
    (s.ringU.stage = .staged → s.ringU.current = some u → s.fitsNow u →
      ∃ t, exec .owedSelection s = .next t ∧ s.beginsRecord t .u u
        ∧ { t with
              line := s.line, cycle := s.cycle, context := s.context, lateWatch := s.lateWatch,
              stations := s.stations, ringU := s.ringU } = s)
    ∧ (s.stagedDoesNotFit .u → s.ringN.stage = .staged → s.ringN.current = some n → s.fitsNow n →
      ∃ t, exec .owedSelection s = .next t ∧ s.beginsRecord t .n n
        ∧ { t with
              line := s.line, cycle := s.cycle, context := s.context, lateWatch := s.lateWatch,
              stations := s.stations, ringN := s.ringN } = s)
    ∧ (∀ result, s.offerFails .u u result →
        s.ringN.stage = .staged → s.ringN.current = some n → s.fitsNow n →
      ∃ t, exec .owedSelection s = .next t ∧ s.beginsRecord t .n n
        ∧ t.ringU = s.ringU.completedBy u result s.cycle.number
        ∧ t.issuesBehind s.requests [s.statusWriteRequest .u u]
        ∧ { t with
              line := s.line, cycle := s.cycle, context := s.context, lateWatch := s.lateWatch,
              stations := s.stations, ringU := s.ringU, ringN := s.ringN, requests := s.requests } = s)
    ∧ ∀ done, s.offersChooseNothing done →
        (s.settings.rollEnable = false ∨ s.cycle.rollDone = true
          ∨ s.cycle.number.toNat % s.settings.rollInterval ≠ 0
          ∨ s.settings.period < s.cycle.clock + (210 + s.settings.rollWindow) + s.settings.guard) →
      ∃ t, exec .owedSelection s = .next t ∧ s.afterOffers t done ∧ t.cycle = { s.cycle with owed := false }
        ∧ { t with
              cycle := s.cycle, ringU := s.ringU, ringN := s.ringN, requests := s.requests,
              orderIndex := s.orderIndex } = s

/-- OWED_SELECTION with no staged record chosen: the roll call of the cycle goes to the first target from the
pointer on, each address once, and moves the pointer past it, while records that do not fit stay staged and those
that their tests complete are written back; with no target only the flag is set beside these (R34, R35, R36, R37,
R40, R41, R59, R126). Where both rings' records complete, the order of their STATUS_WRITEs is a free value (R136;
log entry 30). A roll call carries no tag, function, data or in capacity (R39, R40, R41): its exchange holds them
as 0 or empty and STALE clear, the model's choice (log entry 31). -/
def Obligations.RollCallFindsTheNextTarget : Prop :=
  ∀ (s : State) (address : Nat → Address) (done : Ring → Option (RingRecord × Result)),
    s.selectionCanRun = true → s.offersChooseNothing done → s.settings.rollEnable = true →
    s.cycle.rollDone = false → s.cycle.number.toNat % s.settings.rollInterval = 0 →
    s.cycle.clock + (210 + s.settings.rollWindow) + s.settings.guard ≤ s.settings.period →
    1 ≤ s.cycle.rollPointer.toNat → s.cycle.rollPointer.toNat ≤ 62 →
    (∀ k, address k = BitVec.ofNat 6 ((s.cycle.rollPointer.toNat - 1 + k) % 62 + 1)) →
    (∀ k, k < 62 →
      (s.station (address k)).search = true →
      (s.station (address k)).state ∈ [.absent, .lost] →
      (∀ j, j < k → (s.station (address j)).search = false
        ∨ (s.station (address j)).state ∉ [.absent, .lost]) →
      ∃ t, exec .owedSelection s = .next t ∧ s.afterOffers t done
        ∧ t.context = some
            { source := .rollCall, station := address k, tag := 0, function := 0, stale := false, outData := []
              inCapacity := 0, retryLimit := 0, tries := 1, window := s.settings.rollWindow, expiry := none
              causes := 0, unaccounted := 0, answered := false, reissued := false, orphaned := false
              last := none, reply := none, state := .transmitting }
        ∧ t.line = s.line.sending .attempt (rollFrame (address k)) ∧ t.lateWatch = none
        ∧ t.cycle = { s.cycle with
            owed := false, rollDone := true
            rollPointer := if address k = 62 then 1 else address k + 1 }
        ∧ { t with
              line := s.line, cycle := s.cycle, context := s.context, lateWatch := s.lateWatch,
              ringU := s.ringU, ringN := s.ringN, requests := s.requests, orderIndex := s.orderIndex } = s)
    ∧ ((∀ k, k < 62 → (s.station (address k)).search = false
          ∨ (s.station (address k)).state ∉ [.absent, .lost]) →
      ∃ t, exec .owedSelection s = .next t ∧ s.afterOffers t done
        ∧ t.cycle = { s.cycle with owed := false, rollDone := true }
        ∧ { t with
              cycle := s.cycle, ringU := s.ringU, ringN := s.ringN, requests := s.requests,
              orderIndex := s.orderIndex } = s)

/-! ### Events of the exchange context -/

/-- The outcome of a frame end. Of a try's: the first of R44's rows 4 to 10 whose condition holds (R44, R46); at
the CELL_ARRIVAL of the last check byte a faulty reply of a ring record's try with tries left waits for its retry
if its outcome is retryable, in STOPPING with the record back in staging, and otherwise ends the exchange, as it
ends a slot's (R52, R54, R56, R57), an orphaned one's result being discarded (R64). Of a roll call's, at the same
event: an IDENTITY, which joins, rejoins, replaces or is discarded by the state of the target's record, with the
duplicate check of a joining serial, or else a CLASH, which changes no record (R60, R67, R68, R69, R70, R71, R72,
R74). An abandoned reply of a roll call is a CLASH, and of an exchange with no try left BAD_REPLY (R47, R52, R56,
R60). In STOPPING the engine halts after the exchange's end or the return to staging, within the event (R184,
R188). The event takes the time up to its moment with it (log entry 4), the walk moves past the slots not due
within it (R31; log entries 10 and 17), how the line stands after a bad cell is the model's field for R3 (log entry
3), and that the selection point of R33 makes a selection owed only when no mark is wanted is the model's reading
(log entry 11). -/
def Obligations.FrameEndsAreJudgedInOrder : Prop :=
  (∀ (e : Exchange) (f : FrameReport),
    e.judge f =
      if f.good = false then .check
      else if f.kind ≠ .reply ∨ f.address ≠ e.station then .wrongSender
      else if f.tag ≠ e.tag then .tagMismatch
      else if e.inCapacity < f.payload.length then .overlength
      else if f.upper ∈ [2, 3, 4, 5, 6, 7, 8, 9, 10, 11, 12, 13, 14, 15] then .refused
      else if f.upper = 1 then .warn
      else .success)
    ∧ (∀ (s u : State) (e : Exchange) (b : Byte) (age : Nat) (f : FrameReport) (outcome : TryOutcome)
        (kinds : KindSet) (result : Result) (answered : Bool) (reply : Option Reply),
      (s.engine = .running ∨ s.engine = .stopping) → s.line.tx = none → s.line.cell = some age →
      s.line.rx.state = .inFrame → s.line.rx.count = 4 + s.line.rx.length.toNat →
      f = s.line.rx.report (decide (s.line.rx.checkHigh ++ b = s.line.rx.crc)) →
      s.context = some e → e.state = .receiving → 1 ≤ e.station.toNat → e.station.toNat ≤ 62 →
      outcome = e.judge f →
      (outcome, kinds, result, answered) ∈
        [(.check, FaultKind.check.set, .badReply, false),
          (.wrongSender, FaultKind.wrongSender.set, .badReply, false),
          (.tagMismatch, FaultKind.tagMismatch.set, .tagMismatch, true),
          (.overlength, FaultKind.overlength.set, .overlength, true),
          (.refused, FaultKind.refused.set, .refused, true)] →
      reply = (if answered then some { condition := f.upper, payload := [] } else none) →
      u = { (s.supervise e.station (e.answered || answered)).afterAccounting e.source e.station
          (e.unaccounted ||| kinds) with
        cycle := s.cycle.ranOn s.engine (10 - age)
        line := { s.line with
          cell := none, idleRun := 0, rest := .resting, rx := { s.line.rx with state := .idle } } } →
      (∀ r i, s.engine = .running → e.source = .ring r i → e.orphaned = false → e.tries < 1 + e.retryLimit →
        outcome ∈ [.check, .wrongSender, .tagMismatch] →
        ∃ t, exec (.cellArrival (.good b)) s = .next t ∧ t.line = u.line ∧ t.cycle = u.cycle
          ∧ t.context = some { e with
              causes := e.causes ||| kinds, unaccounted := e.unaccounted ||| kinds
              answered := e.answered || answered, last := some outcome, reply := reply, expiry := none
              state := .ending }
          ∧ { t with line := s.line, cycle := s.cycle, context := s.context } = s)
      ∧ (∀ r i record, s.engine = .stopping → e.source = .ring r i → e.orphaned = false →
        e.tries < 1 + e.retryLimit → outcome ∈ [.check, .wrongSender, .tagMismatch] →
        (s.ringUnit r).current = some record →
        ∃ t, exec (.cellArrival (.good b)) s = .next t ∧ t.closes u u.cycle
          ∧ s.restages t r { e with causes := e.causes ||| kinds } record ∧ t.keepsRest s)
      ∧ (∀ r i record, e.source = .ring r i → e.orphaned = false → (s.ringUnit r).current = some record →
        (1 + e.retryLimit ≤ e.tries ∨ outcome ∈ [.overlength, .refused]) →
        ∃ t, exec (.cellArrival (.good b)) s = .next t ∧ t.closes u u.cycle.selecting
          ∧ s.completes t r { e with causes := e.causes ||| kinds } record result reply ∧ t.keepsRest s)
      ∧ (∀ r i, e.source = .ring r i → e.orphaned = true →
        ∃ t, exec (.cellArrival (.good b)) s = .next t ∧ t.closes u u.cycle.selecting
          ∧ t.keepsRings s ∧ t.keepsRest s)
      ∧ ∀ i : Fin 32, e.source = .slot i →
        ∃ t, exec (.cellArrival (.good b)) s = .next t
          ∧ t.closes (u.afterSlotResult i result (e.causes ||| kinds))
              (u.cycle.walkedOn (s.dueSlotFrom (i.val + 1)))
          ∧ t.keepsRings s ∧ t.keepsRest s)
    ∧ (∀ (s u : State) (e : Exchange) (c : Instr) (cycle : CycleUnit) (line : LineUnit),
      (s.engine = .running ∨ s.engine = .stopping) → s.context = some e → e.state = .receiving →
      (c = .gapLimitExpiry ∧ s.gapRuns = true ∧ cycle = s.cycle.ranOn s.engine (20 - s.line.idleRun)
          ∧ line = { (s.elapse (20 - s.line.idleRun)).line with rx := { s.line.rx with state := .abandoning } }
        ∨ ∃ cell age, c = .cellArrival cell ∧ s.line.tx = none ∧ s.line.cell = some age
            ∧ s.line.rx.state = .inFrame ∧ cycle = s.cycle.ranOn s.engine (10 - age)
            ∧ (cell = .bad ∧ line = { s.line with
                  cell := none, idleRun := 0, rest := .heldAfterBadCell
                  rx := { s.line.rx with state := .abandoning } }
              ∨ s.line.rx.count = 2 ∧ ∃ b : Byte, cell = .good b ∧ 120 < b.toNat
                  ∧ line = { s.line with
                    cell := none, idleRun := 0, rest := .resting
                    rx := { s.line.rx with
                      state := .abandoning, count := 3, crc := crcByte s.line.rx.crc b, length := b } })) →
      u = { (s.supervise e.station e.answered).afterAccounting e.source e.station
        (e.unaccounted ||| FaultKind.framing.set) with cycle := cycle, line := line } →
      (e.source = .rollCall →
        ∃ t, exec c s = .next t
          ∧ t.closes { s.post { Entry.blank .station 4 s.cycle.number with station := e.station } with
              cycle := cycle, line := line } cycle.selecting
          ∧ t.keepsRings s ∧ t.keepsRest s)
      ∧ (∀ r i record, s.engine = .stopping → e.source = .ring r i → e.station ≠ 63 → e.orphaned = false →
        e.tries < 1 + e.retryLimit → (s.ringUnit r).current = some record →
        ∃ t, exec c s = .next t ∧ t.closes u cycle
          ∧ s.restages t r { e with causes := e.causes ||| FaultKind.framing.set } record ∧ t.keepsRest s)
      ∧ (∀ r i record, e.source = .ring r i → e.station ≠ 63 → e.orphaned = false →
        (s.ringUnit r).current = some record → 1 + e.retryLimit ≤ e.tries →
        ∃ t, exec c s = .next t ∧ t.closes u cycle.selecting
          ∧ s.completes t r { e with causes := e.causes ||| FaultKind.framing.set } record .badReply none
          ∧ t.keepsRest s)
      ∧ (∀ r i, e.source = .ring r i → e.station ≠ 63 → e.orphaned = true →
        ∃ t, exec c s = .next t ∧ t.closes u cycle.selecting ∧ t.keepsRings s ∧ t.keepsRest s)
      ∧ ∀ i : Fin 32, e.source = .slot i → e.station ≠ 63 →
        ∃ t, exec c s = .next t
          ∧ t.closes (u.afterSlotResult i .badReply (e.causes ||| FaultKind.framing.set))
              (cycle.walkedOn (s.dueSlotFrom (i.val + 1)))
          ∧ t.keepsRings s ∧ t.keepsRest s)
    ∧ ∀ (s : State) (e : Exchange) (b : Byte) (age : Nat) (f : FrameReport) (identity : Prop) (id : Identity)
        (duplicate : Bool),
      (s.engine = .running ∨ s.engine = .stopping) → s.line.tx = none → s.line.cell = some age →
      s.line.rx.state = .inFrame → s.line.rx.count = 4 + s.line.rx.length.toNat →
      f = s.line.rx.report (decide (s.line.rx.checkHigh ++ b = s.line.rx.crc)) →
      s.context = some e → e.state = .receiving → e.source = .rollCall →
      1 ≤ e.station.toNat → e.station.toNat ≤ 62 →
      (identity ↔ f.good = true ∧ f.kind = .roll ∧ f.address = e.station ∧ f.payload.length = 9) →
      (∀ p0 p1 p2 p3 p4 p5 p6 p7 p8 : Byte, f.payload = [p0, p1, p2, p3, p4, p5, p6, p7, p8] →
        id = { type := p1 ++ p0, revision := p3 ++ p2, serial := p7 ++ p6 ++ p5 ++ p4
               maxPayload := min p8.toNat 120 }) →
      duplicate = decide (∃ i : Fin 62, BitVec.ofNat 6 (i.val + 1) ≠ e.station
        ∧ (s.stations[i]).state ≠ .absent ∧ (s.stations[i]).identity.map (·.serial) = some id.serial) →
      ∃ t v, exec (.cellArrival (.good b)) s = .next t ∧ t.closes v v.cycle.selecting
        ∧ t.keepsRings s ∧ t.keepsRest s
        ∧ { v with stations := s.stations, queue := s.queue, host := s.host } = { s with
            cycle := s.cycle.ranOn s.engine (10 - age)
            context := v.context
            line := { s.line with
              cell := none, idleRun := 0, rest := .resting, rx := { s.line.rx with state := .idle } } }
        ∧ (¬ identity →
            v.handsOn (s.post { Entry.blank .station 4 s.cycle.number with station := e.station }))
        ∧ (identity →
            ((s.station e.station).state = .absent
              ∨ (s.station e.station).state = .lost
                ∧ (s.station e.station).identity.map (·.serial) ≠ some id.serial) →
            v.station e.station = { s.station e.station with
              state := .joining, identity := some id, nextTag := 0, missCount := 0 }
            ∧ v.queue = (s.post { Entry.blank .station 1 s.cycle.number with
                station := e.station, duplicate := duplicate }).queue
            ∧ v.host = (s.post { Entry.blank .station 1 s.cycle.number with
                station := e.station, duplicate := duplicate }).host)
        ∧ (identity → (s.station e.station).state = .lost →
            (s.station e.station).identity.map (·.serial) = some id.serial →
            v.station e.station = { s.station e.station with
              state := .active, identity := some id, nextTag := 0, missCount := 0 }
            ∧ v.queue = (s.post { Entry.blank .station 2 s.cycle.number with station := e.station }).queue
            ∧ v.host = (s.post { Entry.blank .station 2 s.cycle.number with station := e.station }).host)
        ∧ (identity → (s.station e.station).state ∈ [.barred, .joining, .active, .suspect] →
            v.handsOn s)
        ∧ ∀ a, a ≠ e.station → v.station a = s.station a

/-- WINDOW_EXPIRY, and the CELL_ARRIVAL at which an expiry that a cell in progress held is taken: a ring record
with tries left waits for its retry; a ring record with none left and a slot's exchange end NO_REPLY with a missed
supervision update, their accounting and the slot's SLOT entry in this order, and an orphaned exchange with its
result discarded; each under a new late watch; a roll call ends with no station effect. In STOPPING an exchange's
end, or the record's return to staging where a retry would be owed, halts the engine (R42, R45, R48, R52, R54, R57,
R59, R64, R76, R104, R106, R152, R161, R184, R188). The event takes the time up to its moment with it (log entry
4), the expiry is held as the bit times left to it (log entry 9), how the line stands after a bad cell is the
model's field for R3 (log entry 3), an expiry at the very end of a cell is left to WINDOW_EXPIRY (log entry 28),
the walk moves past the slots not due within it (R31; log entries 10 and 17), a station is LOST at or above the
miss limit (log entry 21), and that the selection point of R33 makes a selection owed only when no mark is wanted
is the model's reading (log entry 11). -/
def Obligations.WindowExpiryIsNoReply : Prop :=
  (∀ (s : State) (k : Nat), s.windowLeft? = some k ↔
      ∃ e left, s.context = some e ∧ e.state = .awaitingReply ∧ s.line.cell = none ∧ e.expiry = some left
        ∧ k = left.toNat)
    ∧ ∀ (s u v : State) (e : Exchange) (c : Instr) (k : Nat) (line : LineUnit) (causes unaccounted : KindSet),
    s.context = some e → (s.engine = .running ∨ s.engine = .stopping) → s.line.tx = none →
    (c = .windowExpiry ∧ s.windowLeft? = some k ∧ line = (s.elapse k).line
      ∨ ∃ cell age left, c = .cellArrival cell ∧ s.line.cell = some age ∧ k = 10 - age
          ∧ e.state = .awaitingReply ∧ e.expiry = some left ∧ left < (k : Int)
          ∧ (s.line.rx.state = .abandoning ∨ s.line.rx.state = .idle ∧ cell ≠ .good 0x96)
          ∧ line = { s.line with
              cell := none, idleRun := 0
              rest := if cell = .bad then .heldAfterBadCell else .resting }) →
    causes = e.causes ||| FaultKind.noReply.set → unaccounted = e.unaccounted ||| FaultKind.noReply.set →
    v = { s with cycle := s.cycle.ranOn s.engine k, line := line } →
    u = { (s.supervise e.station e.answered).afterAccounting e.source e.station unaccounted with
      cycle := v.cycle, line := v.line, lateWatch := some e.station } →
    (∀ r i, s.engine = .running → e.source = .ring r i → e.station ≠ 63 → e.orphaned = false →
      e.tries < 1 + e.retryLimit →
      ∃ t, exec c s = .next t
        ∧ t.context = some { e with
            causes := causes, unaccounted := unaccounted, last := some .noReply, reply := none
            expiry := none, state := .ending }
        ∧ t.lateWatch = some e.station ∧ t.cycle = v.cycle ∧ t.line = v.line
        ∧ { t with line := s.line, cycle := s.cycle, context := s.context, lateWatch := s.lateWatch } = s)
    ∧ (∀ r i record, s.engine = .stopping → e.source = .ring r i → e.station ≠ 63 → e.orphaned = false →
      e.tries < 1 + e.retryLimit → (s.ringUnit r).current = some record →
      ∃ t, exec c s = .next t ∧ t.closes u u.cycle
        ∧ s.restages t r { e with causes := causes } record ∧ t.keepsRest s)
    ∧ (∀ r i record, e.source = .ring r i → e.station ≠ 63 → e.orphaned = false →
      1 + e.retryLimit ≤ e.tries → (s.ringUnit r).current = some record →
      ∃ t, exec c s = .next t ∧ t.closes u u.cycle.selecting
        ∧ s.completes t r { e with causes := causes } record .noReply none ∧ t.keepsRest s)
    ∧ (∀ r i, e.source = .ring r i → e.station ≠ 63 → e.orphaned = true →
      ∃ t, exec c s = .next t ∧ t.closes u u.cycle.selecting ∧ t.keepsRings s ∧ t.keepsRest s)
    ∧ (∀ i : Fin 32, e.source = .slot i → e.station ≠ 63 →
      ∃ t, exec c s = .next t
        ∧ t.closes (u.afterSlotResult i .noReply causes) (u.cycle.walkedOn (s.dueSlotFrom (i.val + 1)))
        ∧ (1 ≤ e.station.toNat → e.station.toNat ≤ 62 → e.answered = false →
            (s.station e.station).state ∈ [.active, .suspect] →
            ((s.station e.station).missCount + 1 < s.settings.missLimit →
              (t.station e.station).state = .suspect
                ∧ (t.station e.station).missCount = (s.station e.station).missCount + 1)
            ∧ (s.settings.missLimit ≤ (s.station e.station).missCount + 1 →
              (t.station e.station).state = .lost ∧ (t.station e.station).missCount = 0))
        ∧ (∀ a, a ≠ e.station → t.station a = s.station a)
        ∧ t.keepsRings s ∧ t.keepsRest s)
    ∧ (e.source = .rollCall →
      ∃ t, exec c s = .next t ∧ t.closes v v.cycle.selecting ∧ t.keepsRings s ∧ t.keepsRest s)

/-- RETRY_OPPORTUNITY: the next try begins, with the tag kept or a fresh one and REISSUED; otherwise the record is
staged again with its progress, after the stay's supervision update and accounting, and in STOPPING the engine
halts (R41, R51, R53, R54, R124, R149, R152, R184, R188). That the emptying, which R33 and R54 call a selection
point, makes a selection owed only when no mark is wanted is the model's reading (log entry 11). -/
def Obligations.RetryBeginsOrReturnsToStaging : Prop :=
  ∀ (s u : State) (e : Exchange) (r : Ring) (i : Byte) (record : RingRecord),
    u = (s.supervise e.station e.answered).afterAccounting e.source e.station e.unaccounted →
    s.retryCanRun = true → s.context = some e → e.source = .ring r i →
    1 ≤ e.station.toNat → e.station.toNat ≤ 62 → 1 ≤ e.tries →
    (s.ringUnit r).current = some record →
    (s.engine = .running → (s.station e.station).state ∈ [.active, .suspect] →
      s.cycle.clock + (10 * (12 + e.outData.length + e.inCapacity) + (s.station e.station).window)
        + s.settings.guard ≤ s.settings.period →
      ∃ t tag, exec .retryOpportunity s = .next t
        ∧ tag = (if (s.station e.station).nextTag = e.tag + 1 then e.tag
            else (s.station e.station).nextTag)
        ∧ t.context = some { e with
            tag := tag, window := (s.station e.station).window, tries := e.tries + 1, last := none,
            reply := none, expiry := none, state := .transmitting
            reissued := e.reissued || decide ((s.station e.station).nextTag ≠ e.tag + 1) }
        ∧ (t.station e.station) = { s.station e.station with nextTag := tag + 1 }
        ∧ (∀ a, a ≠ e.station → t.station a = s.station a)
        ∧ t.line = s.line.sending .attempt (requestFrame e.station tag e.stale e.function e.outData)
        ∧ t.lateWatch = none
        ∧ { t with
              line := s.line, context := s.context, stations := s.stations,
              lateWatch := s.lateWatch } = s)
    ∧ ((s.engine ≠ .running ∨ (s.station e.station).state ∉ [.active, .suspect]
          ∨ s.settings.period < s.cycle.clock
              + (10 * (12 + e.outData.length + e.inCapacity) + (s.station e.station).window)
              + s.settings.guard) →
      ∃ t, exec .retryOpportunity s = .next t ∧ t.closes u s.cycle.selecting ∧ t.line.tx = none
        ∧ s.restages t r e record
        ∧ (∀ a, a ≠ e.station → t.station a = s.station a)
        ∧ t.keepsRest s)

/-! ### The memory master and the rings -/

/-- MEMORY_TRANSFER_ANSWER before the last transfer of the begun request: the request takes the word and
goes on, and nothing else changes. A RECORD_READ reads word 4 first; a STATUS_WRITE writes word 5 and then
word 4 (R138, R139, R141).
Host memory is outside, so the answer brings the word read (log entry 12). -/
def Obligations.TransferAnswersRunThroughTheRequest : Prop :=
  (∀ (s : State) (q : Request) (rest : List Request) (word : Word),
      s.requests = q :: rest → q.begun = true → q.answered + 1 < q.transfers.length →
      exec (.memoryTransferAnswer true word) s = .next
        { s with
          requests := { q with answered := q.answered + 1, words := q.words ++ [word] } :: rest })
    ∧ (∀ q : Request, q.kind = .recordRead →
      q.transfers.map (·.address)
        = [q.address + 16, q.address, q.address + 4, q.address + 8, q.address + 12, q.address + 20]
      ∧ q.transfers.all (fun x => !x.write && x.lane == 0 && x.count == 4) = true)
    ∧ (∀ (s : State) (q : Request) (rest : List Request), s.requests = q :: rest → q.begun = true →
      s.portTransfer = q.transfers[q.answered]?)
    ∧ ∀ q : Request, q.kind = .statusWrite → q.data.length = 8 →
      q.transfers.map (·.address) = [q.address + 4, q.address]
      ∧ q.transfers.map (·.data) = [q.data.drop 4, q.data.take 4]
      ∧ q.transfers.all (fun x => x.write && x.lane == 0 && x.count == 4) = true

/-- A DATA_READ or DATA_WRITE reaches its bytes upward, one transfer for each aligned word, and nothing
outside them (R140). -/
def Obligations.DataTransfersCoverTheirBytes : Prop :=
  ∀ q : Request, (q.kind = .dataRead ∨ q.kind = .dataWrite) → 1 ≤ q.count →
    q.transfers.length = (q.address.toNat % 4 + q.count + 3) / 4
      ∧ (q.transfers.flatMap fun x =>
          (List.range x.count).map fun j => x.address + BitVec.ofNat 32 (x.lane + j))
        = ((List.range q.count).map fun j => q.address + BitVec.ofNat 32 j)
      ∧ (∀ x ∈ q.transfers,
          x.address.toNat % 4 = 0 ∧ x.lane + x.count ≤ 4 ∧ x.write = decide (q.kind = .dataWrite))
      ∧ (q.kind = .dataWrite → q.data.length = q.count → q.transfers.flatMap (·.data) = q.data)

/-- The end of a RECORD_READ, whatever requests wait behind it: an error on any of its transfers ends it and halts
the ring, the last answer with a HOST owner halts the ring, and neither takes anything; with a CONTROLLER owner it
takes the record: an invalid one goes straight to its STATUS_WRITE, one with out data to its DATA_READ, and one
with none at once to the staging tests, which stage it or complete it. The ring's own request joins behind those
waiting, and the oldest of them begins at the same moment (R118, R119, R120, R122, R125, R126, R130, R136, R138,
R139). Host memory is outside, so the answer brings the word read (log entry 12), and that the selection point of
R33 makes a selection owed only when no mark is wanted is the model's reading (log entry 11).

The record taken holds the fields of words 0 to 3 where the record layout places them, with no out data, no tries,
an empty cause set, REISSUED clear and no completion (R114, R119, R197); its tag is held as 0 until its first try
takes one, which is the model's choice (log entry 31). -/
def Obligations.RecordReadTakesOrHalts : Prop :=
  (∀ (index : Byte) (w0 w1 w2 w3 : Word),
      recordOfWords index w0 w1 w2 w3 =
        { index := index
          station := BitVec.ofNat 6 (w0.toNat % 64)
          function := BitVec.ofNat 4 (w0.toNat / 256 % 16)
          retryLimit := BitVec.ofNat 3 (w0.toNat / 4096 % 8)
          notify := decide (w0.toNat / 32768 % 2 = 1)
          outLength := BitVec.ofNat 8 (w0.toNat / 65536 % 256)
          outAddress := w1, inAddress := w2, inCapacity := w3, outData := []
          tries := 0, tag := 0, causes := 0, reissued := false, completion := none })
    ∧ ∀ (s : State) (q : Request) (rest : List Request) (r : Ring) (w4 w0 w1 w2 w3 w5 : Word),
    s.requests = q :: rest → (∀ p ∈ rest, p.begun = false) →
    q.begun = true → q.discarded = false → q.kind = .recordRead → q.ring = r →
    (s.ringUnit r).state = .active →
    (∀ w, ∃ t, exec (.memoryTransferAnswer false w) s = .next t ∧ t.servesNext rest
        ∧ t.ringUnit r = { s.ringUnit r with
            state := .halted, reason := .fetchFault, stage := .none, current := none }
        ∧ t.flag .ring = true
        ∧ t.handsOn ((s.raise .ring).post { Entry.blank .ringHalt 2 s.cycle.number with
            ring := r, index := q.index })
        ∧ (∀ o, o ≠ r → t.ringUnit o = s.ringUnit o)
        ∧ { t with
              ringU := s.ringU, ringN := s.ringN, requests := s.requests, queue := s.queue,
              host := s.host } = s)
    ∧ (q.answered = 5 → q.words = [w4, w0, w1, w2, w3] → w4.getLsbD 0 = false →
      ∃ t, exec (.memoryTransferAnswer true w5) s = .next t ∧ t.servesNext rest
        ∧ t.ringUnit r = { s.ringUnit r with
            state := .halted, reason := .ownership, stage := .none, current := none }
        ∧ t.flag .ring = true
        ∧ t.handsOn ((s.raise .ring).post { Entry.blank .ringHalt 1 s.cycle.number with
            ring := r, index := q.index })
        ∧ (∀ o, o ≠ r → t.ringUnit o = s.ringUnit o)
        ∧ { t with
              ringU := s.ringU, ringN := s.ringN, requests := s.requests, queue := s.queue,
              host := s.host } = s)
    ∧ (q.answered = 5 → q.words = [w4, w0, w1, w2, w3] → w4.getLsbD 0 = true →
      ∀ record taken, record = recordOfWords (BitVec.ofNat 8 (s.ringUnit r).head) w0 w1 w2 w3 →
        taken = { s.ringUnit r with
          head := ((s.ringUnit r).head + 1) % (s.ringUnit r).length
          pending := (s.ringUnit r).pending - 1 } →
      ∃ t, exec (.memoryTransferAnswer true w5) s = .next t
        ∧ (∀ o, o ≠ r → t.ringUnit o = s.ringUnit o)
        ∧ { t with ringU := s.ringU, ringN := s.ringN, requests := s.requests, cycle := s.cycle } = s
        ∧ (∀ result,
            ((record.station = 0 ∨ 120 < record.outLength.toNat ∨ 120 < record.inCapacity.toNat
                ∨ 3 < record.retryLimit.toNat) ∧ result = .badRecord
              ∨ record.station ≠ 0 ∧ record.outLength = 0 ∧ record.inCapacity.toNat ≤ 120
                ∧ record.retryLimit.toNat ≤ 3 ∧ s.recordVerdict record = some result) →
            t.ringUnit r = { taken with
              stage := .writingBack
              current := some { record with
                completion := some { result := result, cycle := s.cycle.number, reply := none } } }
            ∧ t.servesNext (rest ++ [s.statusWriteRequest r record])
            ∧ t.cycle = s.cycle)
        ∧ (record.station ≠ 0 → record.outLength.toNat ≤ 120 → record.inCapacity.toNat ≤ 120 →
            record.retryLimit.toNat ≤ 3 → record.outLength ≠ 0 →
            t.ringUnit r = { taken with stage := .loading, current := some record }
            ∧ t.servesNext (rest ++
                [{ kind := .dataRead, ring := r, index := record.index, address := record.outAddress
                   count := record.outLength.toNat, data := [], begun := false, discarded := false
                   sole := false, answered := 0, words := [] }])
            ∧ t.cycle = s.cycle)
        ∧ (record.station ≠ 0 → record.outLength = 0 → record.inCapacity.toNat ≤ 120 →
            record.retryLimit.toNat ≤ 3 → s.recordVerdict record = none →
            t.ringUnit r = { taken with stage := .staged, current := some record } ∧ t.servesNext rest
            ∧ t.cycle = if s.engine = .running ∧ s.context = none then s.cycle.selecting else s.cycle))

/-- The end of a STATUS_WRITE, whatever requests wait behind it: at its last answer the record is returned, with a
RECORD entry when NOTIFY is set or the result is neither OK nor SENT, and the next record's RECORD_READ joins
behind the requests waiting if one is pending; an error on either of its two transfers ends it and halts the ring
with WRITEBACK_FAULT. The oldest request waiting begins at the same moment (R118, R128, R129, R130, R136, R138,
R141). That no ring fetches while a request that a SOFT_RESET left begun is in the queue is the model's reading
(log entry 25). -/
def Obligations.StatusWriteReturnsTheRecordOrHalts : Prop :=
  ∀ (s : State) (q : Request) (rest : List Request) (r : Ring) (record : RingRecord) (c : Completion) (w : Word)
    (fetches : Prop),
    s.requests = q :: rest → (∀ p ∈ rest, p.begun = false) →
    q.begun = true → q.discarded = false → q.kind = .statusWrite → q.ring = r →
    (s.ringUnit r).state = .active → (s.ringUnit r).current = some record → record.completion = some c →
    (fetches ↔ 0 < (s.ringUnit r).pending ∧ ∀ p ∈ rest, p.ring ≠ r ∧ p.sole = false) →
    (q.answered = 1 →
      ∃ t, exec (.memoryTransferAnswer true w) s = .next t
        ∧ (¬ fetches →
            t.servesNext rest ∧ t.ringUnit r = { s.ringUnit r with stage := .none, current := none })
        ∧ (fetches →
            t.ringUnit r = { s.ringUnit r with stage := .fetching, current := none }
            ∧ t.servesNext (rest ++ [s.fetchRequest r]))
        ∧ t.handsOn
            (if record.notify = true ∨ (c.result ≠ .ok ∧ c.result ≠ .sent) then
              s.post { Entry.blank .record c.result.code c.cycle with
                reissued := record.reissued, ring := r, station := record.station,
                index := record.index, causes := record.causes }
            else s)
        ∧ (∀ o, o ≠ r → t.ringUnit o = s.ringUnit o)
        ∧ { t with
              ringU := s.ringU, ringN := s.ringN, requests := s.requests, queue := s.queue,
              host := s.host } = s)
    ∧ ∃ t, exec (.memoryTransferAnswer false w) s = .next t ∧ t.servesNext rest
        ∧ t.ringUnit r = { s.ringUnit r with
            state := .halted, reason := .writebackFault, stage := .none, current := none }
        ∧ t.flag .ring = true
        ∧ t.handsOn ((s.raise .ring).post { Entry.blank .ringHalt 3 s.cycle.number with
            ring := r, index := record.index, station := record.station, causes := record.causes
            reissued := record.reissued })
        ∧ (∀ o, o ≠ r → t.ringUnit o = s.ringUnit o)
        ∧ { t with
              ringU := s.ringU, ringN := s.ringN, requests := s.requests, queue := s.queue,
              host := s.host } = s

/-- The staging tests in their order; the last answer of a DATA_READ stages the record with the bytes read, or a
staging test completes it, and an error completes it MEMORY_FAULT; an error of a DATA_WRITE turns the result that
the STATUS_WRITE will carry into MEMORY_FAULT with reply length 0. Whatever requests wait behind it, the ring's own
STATUS_WRITE joins behind them, and the oldest waiting begins at the same moment, a STATUS_WRITE with its words
formed then (R28, R30, R121, R122, R125, R126, R127, R136, R138). Host memory is outside, so the answer brings the
word read (log entry 12), and that the selection point of R33 makes a selection owed only when no mark is wanted is
the model's reading (log entry 11).

Byte j of the data read is the byte at the request's address plus j, taken from the word that the transfer of its
aligned word read, the word's least significant byte first (R121, R140). -/
def Obligations.DataRequestsEndTheirWay : Prop :=
  (∀ q : Request, q.kind = .dataRead → q.words.length = q.transfers.length →
      q.bytesRead.length = q.count
        ∧ ∀ (j place : Nat), j < q.count → place = q.address.toNat % 4 + j →
          q.bytesRead.getD j 0 = BitVec.ofNat 8 ((q.words.getD (place / 4) 0).toNat / 256 ^ (place % 4))
            ∧ (q.transfers.map (·.address))[place / 4]?
              = some ((q.address + BitVec.ofNat 32 j) &&& 0xFFFFFFFC))
    ∧ (∀ (s : State) (record : RingRecord) (budget : Nat),
    budget = (if record.station = 63 then 10 * (6 + record.outLength.toNat)
      else 10 * (12 + record.outLength.toNat + record.inCapacity.toNat) + (s.station record.station).window) →
    s.recordVerdict record =
      if record.station ≠ 63 ∧ (s.station record.station).state = .lost then some .stationLost
      else if record.station ≠ 63 ∧ (s.station record.station).state ∈ [.absent, .joining, .barred] then
        some .notActive
      else if record.station ≠ 63 ∧ (s.station record.station).maxPayload < record.outLength.toNat then
        some .tooLong
      else if s.settings.period < 114 + budget + s.settings.guard then some .doesNotFit
      else none)
  ∧ ∀ (s : State) (q : Request) (rest : List Request) (r : Ring) (record : RingRecord),
    s.requests = q :: rest → (∀ p ∈ rest, p.begun = false) →
    q.begun = true → q.discarded = false → q.ring = r → (s.ringUnit r).current = some record →
    (q.kind = .dataRead → (s.ringUnit r).stage = .loading →
      (∀ w, ∃ t, exec (.memoryTransferAnswer false w) s = .next t
        ∧ t.ringUnit r = { s.ringUnit r with
            stage := .writingBack
            current := some { record with
              completion := some { result := .memoryFault, cycle := s.cycle.number, reply := none } } }
        ∧ t.servesNext (rest ++ [s.statusWriteRequest r record])
        ∧ (∀ o, o ≠ r → t.ringUnit o = s.ringUnit o)
        ∧ { t with ringU := s.ringU, ringN := s.ringN, requests := s.requests } = s)
      ∧ (∀ w, q.answered + 1 = q.transfers.length → s.recordVerdict record = none →
        ∃ t, exec (.memoryTransferAnswer true w) s = .next t ∧ t.servesNext rest
          ∧ t.ringUnit r = { s.ringUnit r with
              stage := .staged
              current := some { record with outData := { q with words := q.words ++ [w] }.bytesRead } }
          ∧ t.cycle = (if s.engine = .running ∧ s.context = none then s.cycle.selecting else s.cycle)
          ∧ (∀ o, o ≠ r → t.ringUnit o = s.ringUnit o)
          ∧ { t with
                ringU := s.ringU, ringN := s.ringN, requests := s.requests, cycle := s.cycle } = s)
      ∧ ∀ w result, q.answered + 1 = q.transfers.length → s.recordVerdict record = some result →
        ∃ t, exec (.memoryTransferAnswer true w) s = .next t
          ∧ t.ringUnit r = { s.ringUnit r with
              stage := .writingBack
              current := some { record with
                outData := { q with words := q.words ++ [w] }.bytesRead
                completion := some { result := result, cycle := s.cycle.number, reply := none } } }
          ∧ t.servesNext (rest ++ [s.statusWriteRequest r record])
          ∧ (∀ o, o ≠ r → t.ringUnit o = s.ringUnit o)
          ∧ { t with ringU := s.ringU, ringN := s.ringN, requests := s.requests } = s)
    ∧ ∀ c : Completion, q.kind = .dataWrite → (s.ringUnit r).stage = .writingBack → record.completion = some c →
      (∀ w, ∃ t, exec (.memoryTransferAnswer false w) s = .next t
        ∧ t.ringUnit r = { s.ringUnit r with
            current := some { record with
              completion := some { c with
                result := .memoryFault, reply := c.reply.map fun y => { y with payload := [] } } } }
        ∧ t.servesNext rest
        ∧ (∀ p more, rest = p :: more → p.kind = .statusWrite → p.ring = r →
            t.requests = { p with
              begun := true
              data := wordBytes (statusWord4 .memoryFault 0 record.tries record.reissued c.cycle)
                ++ wordBytes (statusWord5 record.causes ((c.reply.map (·.condition)).getD 0)) } :: more)
        ∧ (∀ o, o ≠ r → t.ringUnit o = s.ringUnit o)
        ∧ { t with ringU := s.ringU, ringN := s.ringN, requests := s.requests } = s)
      ∧ ∀ w, q.answered + 1 = q.transfers.length →
        ∃ t, exec (.memoryTransferAnswer true w) s = .next t ∧ t.servesNext rest
          ∧ (∀ p more, rest = p :: more → p.kind = .statusWrite → p.ring = r →
              t.requests = { p with
                begun := true
                data := wordBytes (statusWord4 c.result ((c.reply.map (·.payload.length)).getD 0)
                    record.tries record.reissued c.cycle)
                  ++ wordBytes (statusWord5 record.causes ((c.reply.map (·.condition)).getD 0)) } :: more)
          ∧ { t with requests := s.requests } = s

/-- The words of a STATUS_WRITE hold each field where the record layout places it, with no two pairs of tries and
REISSUED sharing a tries field; the head words hold each field of an entry where the entry layout places it (R197,
R198); and outside INIT a read of each status register, of STATION_CONFIG, of the slot registers by their read
view, of the configuration registers, the selectors, the cycle's number, clock and late-mark count, the interrupt
and window-status registers, EXMEM_DATA and a ring's BASE and LENGTH shows the fields of the state where the
layouts place them; a write-only register and an unmapped offset read 0, a bit that the layout assigns to no field
reads 0, and bits 1 and 0 of the address take no part (R21, R86, R87, R88, R92, R101, R105, R107, R112, R116, R117,
R158, R159, R166, R167, R169, R173, R174, R179, R191, R193, R194, R195).

First the codes that the fields carry: results (R56), fault kinds as bits (R195), entry kinds (R162), engine,
station and ring states, validation reasons (R96, R179), pages and rings; and a word's bytes, least significant
first. -/
def Obligations.StatusAndHeadWordsHoldTheirFields : Prop :=
  (([.ok, .okHeld, .sent, .noReply, .badReply, .tagMismatch, .overlength, .refused, .collision, .aborted,
        .lineFault, .notActive, .stationLost, .tooLong, .doesNotFit, .skippedCutoff, .memoryFault,
        .badRecord] : List Result).map (·.code.toNat) = List.range 18
      ∧ ([.noReply, .lateReply, .check, .framing, .wrongSender, .tagMismatch, .overlength, .refused, .warn,
        .collision] : List FaultKind).map (·.set.toNat) = (List.range 10).map (2 ^ ·)
      ∧ ([.slot, .record, .alert, .station, .ringHalt, .swapDone, .lineFault] : List EntryKind).map (·.code)
        = [1, 2, 3, 4, 5, 6, 7]
      ∧ ([.init, .halted, .starting, .running, .stopping, .lineFault] : List Engine).map (·.code) = List.range 6
      ∧ ([.absent, .joining, .active, .suspect, .lost, .barred] : List StationState).map (·.code) = List.range 6
      ∧ ([.off, .active, .halted] : List RingState).map (·.code) = List.range 3
      ∧ ([.badStation, .areaBounds, .length, .ratePhase, .overbooked, .period] : List Invalid).map (·.code.toNat)
        = [1, 2, 3, 4, 5, 6]
      ∧ [PageNumber.zero, .one].map (·.code) = [0, 1] ∧ [Ring.u, .n].map ringCode = [0, 1])
    ∧ (∀ w : Word, wordBytes w = (List.range 4).map fun k => BitVec.ofNat 8 (w.toNat / 256 ^ k))
    ∧ (∀ (result : Result) (len tries : Nat) (reissued : Bool) (cycle : BitVec 16) (causes : KindSet)
      (condition : BitVec 4),
    len ≤ 120 → tries ≤ 4 → (reissued = true → 2 ≤ tries) →
    (statusWord4 result len tries reissued cycle).getLsbD 0 = false
      ∧ fieldOf (statusWord4 result len tries reissued cycle) 1 5 = result.code.toNat
      ∧ fieldOf (statusWord4 result len tries reissued cycle) 6 7 = len
      ∧ fieldOf (statusWord4 result len tries reissued cycle) 13 3 =
          (if reissued then tries + 3 else tries)
      ∧ fieldOf (statusWord4 result len tries reissued cycle) 16 16 = cycle.toNat
      ∧ fieldOf (statusWord5 causes condition) 0 10 = causes.toNat
      ∧ fieldOf (statusWord5 causes condition) 16 4 = condition.toNat
      ∧ fieldOf (statusWord5 causes condition) 10 6 = 0 ∧ fieldOf (statusWord5 causes condition) 20 12 = 0
      ∧ ∀ (tries' : Nat) (reissued' : Bool), tries' ≤ 4 → (reissued' = true → 2 ≤ tries') →
          triesField tries reissued = triesField tries' reissued' → tries = tries' ∧ reissued = reissued')
    ∧ (∀ e : Entry,
    fieldOf e.head0 0 3 = e.kind.code ∧ fieldOf e.head0 3 5 = e.code.toNat
      ∧ e.head0.getLsbD 8 = e.reissued ∧ e.head0.getLsbD 9 = e.duplicate ∧ e.head0.getLsbD 10 = e.late
      ∧ e.head0.getLsbD 11 = decide (e.ring = .n) ∧ fieldOf e.head0 12 6 = e.station.toNat
      ∧ fieldOf e.head0 18 8 = e.index.toNat ∧ fieldOf e.head0 26 6 = 0
      ∧ fieldOf e.head1 0 16 = e.cycle.toNat ∧ fieldOf e.head1 16 10 = e.causes.toNat
      ∧ fieldOf e.head1 26 6 = 0)
    ∧ ∀ (s : State) (x : Station) (slot : Slot) (r : Ring) (offset : Byte), s.engine ≠ .init →
    slot = (if s.schedule.view = .edit then s.schedule.editPage else s.schedule.activePage)[s.schedule.select] →
    x = s.station s.stationSelect → offset = (match r with | .u => 0x88 | .n => 0x98) →
    ([Engine.init, .halted, .starting, .running, .stopping, .lineFault][fieldOf (s.read 0x00) 0 3]?
          = some s.engine
        ∧ [Phase.mark, .cyclic, .opened][fieldOf (s.read 0x00) 4 2]? = some s.cycle.phase
        ∧ (s.read 0x00).getLsbD 8 = decide (s.schedule.active = .one)
        ∧ (s.read 0x00).getLsbD 9 = s.schedule.swapPending
        ∧ (s.line.streak ≤ 4 → fieldOf (s.read 0x00) 12 3 = s.line.streak ∧ fieldOf (s.read 0x00) 15 17 = 0)
        ∧ fieldOf (s.read 0x00) 3 1 = 0 ∧ fieldOf (s.read 0x00) 6 2 = 0 ∧ fieldOf (s.read 0x00) 10 2 = 0)
    ∧ (fieldOf (s.read 0x08) 0 8 = s.host.commandStatus.code.toNat
        ∧ fieldOf (s.read 0x08) 8 8 = s.host.commandStatus.arg.toNat
        ∧ [Decision.none, .done, .accepted, .refusedState, .refusedArgument,
            .refusedInvalid][fieldOf (s.read 0x08) 16 3]? = some s.host.commandStatus.decision
        ∧ fieldOf (s.read 0x08) 20 4 = s.host.commandStatus.detail.toNat
        ∧ fieldOf (s.read 0x08) 24 8 = s.host.commandStatus.index.toNat ∧ fieldOf (s.read 0x08) 19 1 = 0)
    ∧ ((s.schedule.status[s.schedule.select] = none → s.read 0x58 = 0)
        ∧ ∀ y, s.schedule.status[s.schedule.select] = some y →
          fieldOf (s.read 0x58) 0 5 = y.result.code.toNat ∧ fieldOf (s.read 0x58) 8 16 = y.cycle.toNat
            ∧ (s.read 0x58).getLsbD 31 = true
            ∧ fieldOf (s.read 0x58) 5 3 = 0 ∧ fieldOf (s.read 0x58) 24 7 = 0)
    ∧ ([StationState.absent, .joining, .active, .suspect, .lost, .barred][fieldOf (s.read 0x60) 0 3]?
          = some x.state
        ∧ (x.missCount ≤ 7 →
          fieldOf (s.read 0x60) 4 3 = x.missCount ∧ fieldOf (s.read 0x60) 8 3 = x.nextTag.toNat
            ∧ (x.maxPayload ≤ 120 →
              fieldOf (s.read 0x60) 16 7 = x.maxPayload ∧ fieldOf (s.read 0x60) 23 9 = 0)
            ∧ fieldOf (s.read 0x60) 7 1 = 0 ∧ fieldOf (s.read 0x60) 11 5 = 0)
        ∧ fieldOf (s.read 0x60) 3 1 = 0
        ∧ (x.identity = none → s.read 0x64 = 0 ∧ s.read 0x68 = 0)
        ∧ (∀ id, x.identity = some id → s.read 0x64 = id.revision ++ id.type ∧ s.read 0x68 = id.serial)
        ∧ fieldOf (s.read 0x70) 0 10 = x.sticky.toNat ∧ fieldOf (s.read 0x70) 10 22 = 0
        ∧ (x.window ≤ 2047 →
          fieldOf (s.read 0x6C) 0 11 = x.window ∧ fieldOf (s.read 0x6C) 16 10 = x.alertMask.toNat
            ∧ (s.read 0x6C).getLsbD 31 = x.search
            ∧ fieldOf (s.read 0x6C) 11 5 = 0 ∧ fieldOf (s.read 0x6C) 26 5 = 0))
    ∧ (fieldOf (s.read 0x4C) 0 6 = slot.station.toNat ∧ fieldOf (s.read 0x4C) 8 4 = slot.function.toNat
        ∧ fieldOf (s.read 0x4C) 16 5 = slot.rate.toNat ∧ fieldOf (s.read 0x4C) 24 4 = slot.phase.toNat
        ∧ [ReportMode.never, .onFault, .always][fieldOf (s.read 0x4C) 28 2]? = some slot.report
        ∧ (s.read 0x4C).getLsbD 31 = slot.enable
        ∧ fieldOf (s.read 0x4C) 6 2 = 0 ∧ fieldOf (s.read 0x4C) 12 4 = 0 ∧ fieldOf (s.read 0x4C) 21 3 = 0
        ∧ fieldOf (s.read 0x4C) 30 1 = 0
        ∧ fieldOf (s.read 0x50) 0 12 = slot.outOffset.toNat ∧ fieldOf (s.read 0x50) 16 8 = slot.outLength.toNat
        ∧ fieldOf (s.read 0x54) 0 12 = slot.inOffset.toNat
        ∧ fieldOf (s.read 0x54) 16 8 = slot.inCapacity.toNat
        ∧ fieldOf (s.read 0x50) 12 4 = 0 ∧ fieldOf (s.read 0x50) 24 8 = 0
        ∧ fieldOf (s.read 0x54) 12 4 = 0 ∧ fieldOf (s.read 0x54) 24 8 = 0)
    ∧ (∀ i : Fin 62,
        (i.val + 1 ≤ 31 → (s.read 0x74).getLsbD (i.val + 1) = decide ((s.stations[i]).sticky ≠ 0))
        ∧ (32 ≤ i.val + 1 →
          (s.read 0x78).getLsbD (i.val + 1 - 32) = decide ((s.stations[i]).sticky ≠ 0)))
    ∧ ((s.read 0x74).getLsbD 0 = false ∧ (s.read 0x78).getLsbD 31 = false)
    ∧ ([RingState.off, .active, .halted][fieldOf (s.read offset) 0 2]? = some (s.ringUnit r).state
        ∧ [HaltReason.none, .ownership, .fetchFault, .writebackFault][fieldOf (s.read offset) 2 2]?
          = some (s.ringUnit r).reason
        ∧ (s.read offset).getLsbD 4 = decide ((s.ringUnit r).stage = .staged)
        ∧ (s.read offset).getLsbD 5 = (s.ringUnit r).postRefused
        ∧ ((s.ringUnit r).head ≤ 255 → fieldOf (s.read offset) 8 8 = (s.ringUnit r).head)
        ∧ ((s.ringUnit r).head ≤ 255 → (s.ringUnit r).pending ≤ 511 →
          fieldOf (s.read offset) 16 9 = (s.ringUnit r).pending ∧ fieldOf (s.read offset) 25 7 = 0)
        ∧ fieldOf (s.read offset) 6 2 = 0)
    ∧ ((s.queue.entries = [] → s.read 0xA0 = 0 ∧ s.read 0xA4 = 0)
        ∧ (∀ y rest, s.queue.entries = y :: rest → s.read 0xA0 = y.head0 ∧ s.read 0xA4 = y.head1)
        ∧ (s.queue.entries.length ≤ 32 → s.queue.overflow ≤ 255 →
          fieldOf (s.read 0xAC) 0 6 = s.queue.entries.length
            ∧ fieldOf (s.read 0xAC) 8 8 = s.queue.overflow
            ∧ fieldOf (s.read 0xAC) 6 2 = 0 ∧ fieldOf (s.read 0xAC) 16 16 = 0))
    ∧ ((s.read 0x0C).toNat = s.host.windowStatus.toNat ∧ (s.read 0x10).toNat = s.host.intPending.toNat
        ∧ (s.read 0x14).toNat = s.host.intEnable.toNat ∧ (s.read 0x18).toNat = s.settings.bitRate.toNat
        ∧ (s.settings.inRange →
          (s.read 0x1C).toNat = s.settings.period ∧ (s.read 0x20).toNat = s.settings.guard
            ∧ (s.read 0x24).toNat = s.settings.missLimit ∧ (s.read 0x2C).toNat = s.settings.notifyThreshold
            ∧ (s.read 0x28).getLsbD 0 = s.settings.rollEnable
            ∧ fieldOf (s.read 0x28) 8 8 = s.settings.rollInterval
            ∧ fieldOf (s.read 0x28) 16 11 = s.settings.rollWindow
            ∧ fieldOf (s.read 0x28) 1 7 = 0 ∧ fieldOf (s.read 0x28) 27 5 = 0))
    ∧ ((s.read 0x30).toNat = s.cycle.number.toNat
        ∧ (s.cycle.clock ≤ 2097151 → (s.read 0x34).toNat = s.cycle.clock)
        ∧ (s.cycle.lateMarks ≤ 65535 → (s.read 0x38).toNat = s.cycle.lateMarks))
    ∧ (s.exmemAddr.toNat % 4 = 0 → ∀ k, k < 4 →
        fieldOf (s.read 0x44) (8 * k) 8 = (s.exmem.byteAt (s.exmemAddr.toNat + k)).toNat)
    ∧ (s.read 0x3C = s.schedule.hold ∧ (s.read 0x40).toNat = s.exmemAddr.toNat
        ∧ fieldOf (s.read 0x48) 0 5 = s.schedule.select.val
        ∧ (s.read 0x48).getLsbD 8 = decide (s.schedule.view = .active)
        ∧ fieldOf (s.read 0x48) 5 3 = 0 ∧ fieldOf (s.read 0x48) 9 23 = 0
        ∧ (s.read 0x5C).toNat = s.stationSelect.toNat)
    ∧ (∀ base length post : Byte,
        (base, length, post) = (match r with | .u => (0x80, 0x84, 0x8C) | .n => (0x90, 0x94, 0x9C)) →
        s.read base = (s.ringUnit r).base ∧ s.read post = 0
          ∧ ((s.ringUnit r).base.toNat % 32 = 0 → fieldOf (s.read base) 0 5 = 0)
          ∧ ((s.ringUnit r).length ≤ 511 → (s.read length).toNat = (s.ringUnit r).length))
    ∧ (s.read 0x04 = 0 ∧ s.read 0xA8 = 0 ∧ s.read 0x7C = 0 ∧ ∀ o : Byte, 0xB0 ≤ o.toNat → s.read o = 0)
    ∧ ∀ o : Byte, s.read o = s.read (o &&& 0xFC)

/-! ### Engine commands -/

/-- START, in the order of R180. -/
def Obligations.StartIsDecidedInOrder : Prop :=
  ∀ (arg : Byte) (s : State),
    (s.engine ≠ .init → s.engine ≠ .halted →
      exec (.start arg) s = .next { s with host := { s.host with commandStatus :=
        { code := 1, arg := arg, decision := .refusedState, detail := BitVec.ofNat 4 s.engine.code,
          index := 0 } } })
    ∧ (s.engine = .halted → s.settings.period < 114 + s.settings.guard →
      exec (.start arg) s = .next { s with host := { s.host with commandStatus :=
        { code := 1, arg := arg, decision := .refusedInvalid, detail := 6, index := 0 } } })
    ∧ (∀ reason index, s.engine = .halted → 114 + s.settings.guard ≤ s.settings.period →
      s.validate s.schedule.activePage = some (reason, index) →
      exec (.start arg) s = .next { s with host := { s.host with commandStatus :=
        { code := 1, arg := arg, decision := .refusedInvalid, detail := reason.code, index := index } } })
    ∧ (s.engine = .halted → 114 + s.settings.guard ≤ s.settings.period →
      s.validate s.schedule.activePage = none →
      exec (.start arg) s = .next { s with
        engine := .starting
        cycle := { s.cycle with phase := .mark, want := some { cause := .first, age := 0 } }
        host := { s.host with commandStatus :=
          { code := 1, arg := arg, decision := .done, detail := 0, index := 0 } } })

/-- A page passes validation exactly when every enabled slot is legal and no residue is overbooked, and a page with
no enabled slot passes. A failing verdict carries the first check that the lowest failing slot fails, with that
slot's index, or OVERBOOKED with index 0 when every slot is legal (R94, R95, R96).
That the empty page passes the overbooking check whatever P and G are is the model's reading (log entry 24). -/
def Obligations.ValidationPassesLegalPagesThatFit : Prop :=
  ∀ (s : State) (page : Vector Slot 32) (legal : Slot → Prop) (fits : Nat → Prop),
    (∀ x : Slot, legal x ↔
      (1 ≤ x.station.toNat ∧ x.station.toNat ≤ 62
        ∧ x.outOffset.toNat + x.outLength.toNat ≤ 4096 ∧ x.inOffset.toNat + x.inCapacity.toNat ≤ 4096
        ∧ x.outLength.toNat ≤ 120 ∧ x.inCapacity.toNat ≤ 120
        ∧ x.rate.toNat ∈ [1, 2, 4, 8, 16] ∧ x.phase.toNat < x.rate.toNat)) →
    (∀ residue : Nat, fits residue ↔
      90 + ((List.finRange 32).map fun i =>
          if (page[i]).enable = true ∧ residue % (page[i]).rate.toNat = (page[i]).phase.toNat then
            24 + (10 * (12 + (page[i]).outLength.toNat + (page[i]).inCapacity.toNat)
              + (s.station (page[i]).station).window)
          else 0).sum + s.settings.guard ≤ s.settings.period) →
    (s.validate page = none ↔
      (∀ i : Fin 32, (page[i]).enable = true → legal (page[i]))
        ∧ ((∃ i : Fin 32, (page[i]).enable = true) → ∀ residue, residue < 16 → fits residue))
    ∧ ((∀ i : Fin 32, (page[i]).enable = false) → s.validate page = none)
    ∧ ((∀ i : Fin 32, (page[i]).enable = true → legal (page[i])) →
        (∃ i : Fin 32, (page[i]).enable = true) → (∃ residue, residue < 16 ∧ ¬ fits residue) →
        s.validate page = some (.overbooked, 0))
    ∧ ∀ i : Fin 32, (page[i]).enable = true → ¬ legal (page[i]) →
        (∀ j : Fin 32, j < i → (page[j]).enable = true → legal (page[j])) →
        s.validate page = some
          (if (page[i]).station = 0 ∨ (page[i]).station = 63 then .badStation
            else if 4096 < (page[i]).outOffset.toNat + (page[i]).outLength.toNat
                ∨ 4096 < (page[i]).inOffset.toNat + (page[i]).inCapacity.toNat then .areaBounds
            else if 120 < (page[i]).outLength.toNat ∨ 120 < (page[i]).inCapacity.toNat then .length
            else .ratePhase, BitVec.ofNat 8 i.val)

/-- STOP, by the engine state (R183, R187, R188). -/
def Obligations.StopByEngineState : Prop :=
  (∀ (s : State) (code arg : Byte) (decision : Decision) (detail : BitVec 4) (index : Byte),
      s.setDecision code arg decision detail index =
        { s with host := { s.host with commandStatus :=
          { code := code, arg := arg, decision := decision, detail := detail, index := index } } })
    ∧ ∀ (arg : Byte) (s halted : State),
    halted =
      (State.afterHalting { s with
        engine := .halted
        cycle := { s.cycle with want := none, owed := false }
        line := { s.line with rx := { s.line.rx with state := .idle } }
        lateWatch := none, lateFrame := none }).setDecision 2 arg .done 0 0 →
    ((s.engine = .halted ∨ s.engine = .stopping) →
      exec (.stop arg) s = .next { s with host := { s.host with commandStatus :=
        { code := 2, arg := arg, decision := .refusedState, detail := BitVec.ofNat 4 s.engine.code,
          index := 0 } } })
    ∧ (s.engine = .starting → exec (.stop arg) s = .next halted)
    ∧ (s.engine = .running → s.context = none → (∀ x, s.line.tx = some x → x.user ≠ .mark) →
      exec (.stop arg) s = .next halted)
    ∧ (∀ e, s.engine = .running →
        (s.context = some e ∨ ∃ x, s.line.tx = some x ∧ x.user = .mark) →
      exec (.stop arg) s = .next { s with
        engine := .stopping
        cycle := { s.cycle with want := none, owed := false }
        host := { s.host with commandStatus :=
          { code := 2, arg := arg, decision := .accepted, detail := 0, index := 0 } } })
    ∧ (s.engine = .lineFault →
      exec (.stop arg) s = .next { halted with line := { halted.line with streak := 0 } })

/-- ABORT: refused in HALTED; otherwise any transmission is cut with the streak as it was, a cut mark's number
returns, the exchange ends ABORTED with its accounting and no supervision, and the engine halts; from LINE_FAULT the
streak returns to 0. With no transmission to cut, the idle run, the line's rest and a cell in progress stand (R12,
R26, R61, R106, R152, R185, R187, R188). How the line stands after a cut is the model's reading (log entry 22). -/
def Obligations.AbortCutsAndHalts : Prop :=
  ∀ (arg : Byte) (s : State),
    (s.engine = .halted →
      exec (.abort arg) s = .next { s with host := { s.host with commandStatus :=
        { code := 3, arg := arg, decision := .refusedState, detail := 1, index := 0 } } })
    ∧ ∀ (cut v : State) (ofMark : Bool), s.engine ∈ [.starting, .running, .stopping, .lineFault] →
      ofMark = s.line.tx.any (·.user = .mark) →
      cut = { s with cycle := { s.cycle with
        number := if ofMark then s.cycle.oldNumber.getD s.cycle.number else s.cycle.number
        oldNumber := if ofMark then none else s.cycle.oldNumber } } →
      (s.context = none → v = cut) →
      (∀ e, s.context = some e →
        (∀ i : Fin 32, e.source = .slot i →
          v = (cut.afterAccounting e.source e.station e.unaccounted).afterSlotEntry i .aborted e.causes)
        ∧ ((∀ i : Fin 32, e.source ≠ .slot i) → v = cut.afterAccounting e.source e.station e.unaccounted)) →
      ∃ t, exec (.abort arg) s = .next t ∧ t.engine = .halted ∧ t.context = none ∧ t.line.tx = none
        ∧ t.line.rx.state = .idle ∧ t.cycle = { cut.cycle with want := none, owed := false }
        ∧ t.flag .halted = true ∧ t.schedule.swapPending = false ∧ t.lateWatch = none ∧ t.lateFrame = none
        ∧ t.host.commandStatus = { code := 3, arg := arg, decision := .done, detail := 0, index := 0 }
        ∧ t.line.streak = (if s.engine = .lineFault then 0 else s.line.streak)
        ∧ t.line = { s.line.cutOff with
            rx := { s.line.rx with state := .idle }
            streak := if s.engine = .lineFault then 0 else s.line.streak }
        ∧ t.handsOn (v.afterHalting.setDecision 3 arg .done 0 0)
        ∧ (∀ a, (t.station a).state = (s.station a).state
            ∧ (t.station a).missCount = (s.station a).missCount)
        ∧ { t with
              engine := s.engine, line := s.line, cycle := s.cycle, context := s.context,
              lateWatch := s.lateWatch, lateFrame := s.lateFrame, stations := s.stations,
              schedule := s.schedule, ringU := s.ringU, ringN := s.ringN, requests := s.requests,
              queue := s.queue, host := s.host } = s
        ∧ (∀ e (i : Fin 32), s.context = some e → e.source = .slot i → s.schedule.swapPending = false →
            t.schedule = { s.schedule with
              status := s.schedule.status.set i (some { result := .aborted, cycle := cut.cycle.number }) })
        ∧ (∀ e r i record, s.context = some e → e.source = .ring r i → e.orphaned = false →
            (s.ringUnit r).current = some record → cut.completes t r e record .aborted none)
        ∧ (s.schedule.swapPending = false → (∀ e (i : Fin 32), s.context = some e → e.source ≠ .slot i) →
            t.schedule = s.schedule)
        ∧ (s.schedule.swapPending = true →
            t.schedule = { s.schedule with
              active := s.schedule.active.other, status := Vector.replicate 32 none, swapPending := false })
        ∧ ((∀ e r i, s.context = some e → e.source = .ring r i → e.orphaned = true) →
            t.ringU = s.ringU ∧ t.ringN = s.ringN ∧ t.requests = s.requests)

/-- SOFT_RESET: what it resets and what it keeps; and the end of the one request that it left begun, at which the
queue is empty and each ring that may fetch issues its RECORD_READ (R3, R12, R63, R66, R118, R135, R136, R145,
R175, R189). That the receiver's count, bytes and CRC are 0 is the model's choice (log entry 2); how the line
stands after the cut of a transmission, that no ring fetches before the begun request has gone, that NOTIFY is
cleared with the other flags, and that the walk position returns to 0, where R32 has a SOFT_RESET leave the walk
where it stands, are its readings (log entries 22, 25, 26 and 29). -/
def Obligations.SoftResetResetsAndKeeps : Prop :=
  (∀ (arg : Byte) (s : State), s.engine = .init → exec (.softReset arg) s = .next s)
    ∧ (∀ (arg : Byte) (s : State), s.engine ≠ .init →
    ∃ t, exec (.softReset arg) s = .next t ∧ t.engine = .halted ∧ t.context = none ∧ t.line.tx = none
      ∧ t.line.rx = Receiver.reset ∧ t.line.streak = 0 ∧ t.lateWatch = none
      ∧ t.line = { s.line.cutOff with rx := Receiver.reset, streak := 0 }
      ∧ (s.line.tx = none → t.line.idleRun = s.line.idleRun)
      ∧ t.cycle = CycleUnit.reset ∧ (∀ i : Fin 62, t.stations[i] = Station.reset)
      ∧ t.ringU = { RingUnit.reset with base := s.ringU.base, length := s.ringU.length }
      ∧ t.ringN = { RingUnit.reset with base := s.ringN.base, length := s.ringN.length }
      ∧ t.requests = (s.requests.filter (·.begun)).map (fun q => { q with discarded := true, sole := true })
      ∧ t.schedule = { s.schedule with
          swapPending := false, hold := 0, status := Vector.replicate 32 none }
      ∧ t.queue = { entries := [], overflow := 0 }
      ∧ t.host = { s.host with
          intPending := 0
          commandStatus := { code := 4, arg := arg, decision := .done, detail := 0, index := 0 } }
      ∧ t.exmem = s.exmem ∧ t.exmemAddr = s.exmemAddr ∧ t.stationSelect = s.stationSelect
      ∧ t.settings = s.settings ∧ t.lateFrame = none ∧ t.resetAsserted = s.resetAsserted
      ∧ t.orderIndex = s.orderIndex)
    ∧ ∀ (s : State) (q : Request) (success : Bool) (word : Word) (fetches : Ring → Prop),
      s.requests = [q] → q.begun = true → q.discarded = true → q.sole = true →
      (success = false ∨ q.transfers.length ≤ q.answered + 1) →
      (∀ r, fetches r ↔
        (s.ringUnit r).state = .active ∧ 0 < (s.ringUnit r).pending ∧ (s.ringUnit r).stage = .none) →
      ∃ t, exec (.memoryTransferAnswer success word) s = .next t
        ∧ (∀ r, (fetches r →
              t.ringUnit r = { s.ringUnit r with stage := .fetching }
              ∧ (t.requestsOf r).map (fun p => { p with begun := false }) = [s.fetchRequest r])
            ∧ (¬ fetches r → t.ringUnit r = s.ringUnit r ∧ t.requestsOf r = []))
        ∧ t.requests.map (·.begun) = (t.requests.zipIdx.map fun p => p.2 == 0)
        ∧ { t with
              ringU := s.ringU, ringN := s.ringN, requests := s.requests, orderIndex := s.orderIndex } = s

/-- SWAP, in the order of R97; applied at once in HALTED (R98). -/
def Obligations.SwapIsDecidedInOrder : Prop :=
  (∀ (arg : Byte) (s : State), s.engine = .init → exec (.swap arg) s = .next s)
    ∧ ∀ (arg : Byte) (s : State), s.engine ≠ .init →
    (s.schedule.swapPending = true →
      exec (.swap arg) s = .next { s with host := { s.host with commandStatus :=
        { code := 5, arg := arg, decision := .refusedState, detail := 0, index := 0 } } })
    ∧ (∀ reason index, s.schedule.swapPending = false →
      s.validate s.schedule.editPage = some (reason, index) →
      exec (.swap arg) s = .next { s with host := { s.host with commandStatus :=
        { code := 5, arg := arg, decision := .refusedInvalid, detail := reason.code, index := index } } })
    ∧ (s.schedule.swapPending = false → s.validate s.schedule.editPage = none → s.engine ≠ .halted →
      exec (.swap arg) s = .next { s with
        schedule := { s.schedule with swapPending := true }
        host := { s.host with commandStatus :=
          { code := 5, arg := arg, decision := .accepted, detail := 0, index := 0 } } })
    ∧ (s.schedule.swapPending = false → s.validate s.schedule.editPage = none → s.engine = .halted →
      ∃ t, exec (.swap arg) s = .next t
        ∧ t.schedule = { s.schedule with
            active := s.schedule.active.other, status := Vector.replicate 32 none, swapPending := false }
        ∧ t.queue = (s.post { Entry.blank .swapDone 0 s.cycle.number with
            index := BitVec.ofNat 8 s.schedule.active.other.code }).queue
        ∧ t.host = { (s.post { Entry.blank .swapDone 0 s.cycle.number with
              index := BitVec.ofNat 8 s.schedule.active.other.code }).host with
            commandStatus := { code := 5, arg := arg, decision := .done, detail := 0, index := 0 } }
        ∧ { t with schedule := s.schedule, queue := s.queue, host := s.host } = s)

/-- QUEUE_CLEAR; a COMMAND write of a code that is no command; a narrow write at any offset, which sets
NARROW_WRITE and does nothing else; and a 32-bit write that no register takes, which does nothing (R170, R178,
R179, R194).

Which command a host write is: a narrow one whenever some byte enable is not asserted, the command of its code with
its argument field at COMMAND, and otherwise the write of the register whose word position the offset's bits 7 to 2
select; each is a command of the part (R178, R194, and The map of 11_register_window_and_formats.md). -/
def Obligations.QueueClearAndWritesThatNothingTakes : Prop :=
  (∀ (arg : Byte) (s : State), s.engine = .init → exec (.queueClear arg) s = .next s)
    ∧ (∀ (arg : Byte) (s : State), s.engine ≠ .init →
      exec (.queueClear arg) s = .next { s with
        queue := { entries := [], overflow := 0 }
        host := { s.host with commandStatus :=
          { code := 13, arg := arg, decision := .done, detail := 0, index := 0 } } })
    ∧ (∀ (code arg : Byte) (s : State), s.engine ≠ .init → (code = 0 ∨ 13 < code.toNat) →
      exec (.commandCodeUnknown code arg) s = .next { s with host := { s.host with commandStatus :=
        { code := code, arg := arg, decision := .refusedArgument, detail := 0, index := 0 } } })
    ∧ (∀ (s : State) (offset : Byte) (enables : BitVec 4) (data : Word), s.engine ≠ .init →
      (enables ≠ 0xF#4 →
        exec (.narrowWrite offset enables data) s = .next
          { s with host := { s.host with windowStatus := s.host.windowStatus ||| 4 } })
      ∧ (offset.toNat / 4 * 4 ∈
            [0x00, 0x08, 0x30, 0x34, 0x38, 0x58, 0x60, 0x64, 0x68, 0x70, 0x74, 0x78, 0x7C, 0xA0, 0xA4, 0xAC]
            ∨ 0xB0 ≤ offset.toNat →
        exec (.ignoredRegisterWrite offset data) s = .next s))
    ∧ ∀ (offset : Byte) (enables : BitVec 4) (data : Word) (code arg : Byte) (registers : List (Nat × Instr)),
      code = BitVec.ofNat 8 (data.toNat % 256) → arg = BitVec.ofNat 8 (data.toNat / 256 % 256) →
      registers =
        [(0x0C, .windowStatusWrite data), (0x10, .intPendingWrite data), (0x14, .intEnableWrite data),
         (0x18, .lineConfigWrite data), (0x1C, .cyclePeriodWrite data), (0x20, .guardWrite data),
         (0x24, .missLimitWrite data), (0x28, .rollcallConfigWrite data), (0x2C, .notifyThresholdWrite data),
         (0x3C, .holdMaskWrite data), (0x40, .exmemAddrWrite data), (0x44, .exmemDataWrite data),
         (0x48, .slotSelectWrite data), (0x4C, .slotRegisterWrite .station data),
         (0x50, .slotRegisterWrite .outArea data), (0x54, .slotRegisterWrite .inArea data),
         (0x5C, .stationSelectWrite data), (0x6C, .stationConfigWrite data), (0x80, .baseWrite .u data),
         (0x84, .lengthWrite .u data), (0x88, .ringStatusWrite .u data), (0x8C, .post .u data),
         (0x90, .baseWrite .n data), (0x94, .lengthWrite .n data), (0x98, .ringStatusWrite .n data),
         (0x9C, .post .n data), (0xA8, .queuePop data)] →
      (hostWrite offset enables data).wellFormed = true
      ∧ (enables ≠ 0xF#4 → hostWrite offset enables data = .narrowWrite offset enables data)
      ∧ (enables = 0xF#4 →
        (∀ o e d, hostWrite offset enables data ≠ .narrowWrite o e d)
        ∧ (offset.toNat / 4 * 4 = 0x04 →
          (∀ k c, ([.start, .stop, .abort, .softReset, .swap, .admitStation, .bar, .forget, .clearSticky,
                .ringEnable, .ringResume, .ringReset, .queueClear] : List (Byte → Instr))[k]? = some c →
              code.toNat = k + 1 → hostWrite offset enables data = c arg)
          ∧ (code = 0 ∨ 13 < code.toNat → hostWrite offset enables data = .commandCodeUnknown code arg))
        ∧ (∀ c, (offset.toNat / 4 * 4, c) ∈ registers → hostWrite offset enables data = c)
        ∧ (offset.toNat / 4 * 4 ≠ 0x04 → (∀ c, (offset.toNat / 4 * 4, c) ∉ registers) →
          hostWrite offset enables data = .ignoredRegisterWrite offset data))

/-! ### Station commands and supervision -/

/-- The station commands ADMIT, BAR, FORGET and CLEAR_STICKY: their effect in the states they accept, and their
refusals (R80, R81, R82, R83, R84). -/
def Obligations.StationCommands : Prop :=
  (∀ (arg : Byte) (a : Address) (s : State), s.engine ≠ .init →
    (arg = 0 ∨ 62 < arg.toNat →
      exec (.admitStation arg) s = .next { s with host := { s.host with commandStatus :=
        { code := 6, arg := arg, decision := .refusedArgument, detail := 0, index := 0 } } }
      ∧ exec (.bar arg) s = .next { s with host := { s.host with commandStatus :=
        { code := 7, arg := arg, decision := .refusedArgument, detail := 0, index := 0 } } })
    ∧ (arg.toNat = a.toNat → 1 ≤ a.toNat → a.toNat ≤ 62 →
      ((s.station a).state ≠ .joining →
        exec (.admitStation arg) s = .next { s with host := { s.host with commandStatus :=
          { code := 6, arg := arg, decision := .refusedState
            detail := BitVec.ofNat 4 (s.station a).state.code, index := 0 } } })
      ∧ ((s.station a).state = .joining →
        ∃ t, exec (.admitStation arg) s = .next t
          ∧ t.station a = { s.station a with state := .active, nextTag := 0, missCount := 0 }
          ∧ (∀ b, b ≠ a → t.station b = s.station b)
          ∧ t.host = { s.host with commandStatus :=
              { code := 6, arg := arg, decision := .done, detail := 0, index := 0 } }
          ∧ { t with stations := s.stations, host := s.host } = s)
      ∧ ((s.station a).state ∈ [.absent, .barred] →
        exec (.bar arg) s = .next { s with host := { s.host with commandStatus :=
          { code := 7, arg := arg, decision := .refusedState
            detail := BitVec.ofNat 4 (s.station a).state.code, index := 0 } } })
      ∧ ((s.station a).state ∈ [.joining, .active, .suspect, .lost] →
        ∃ t, exec (.bar arg) s = .next t
          ∧ t.station a = { s.station a with state := .barred, missCount := 0 }
          ∧ (∀ b, b ≠ a → t.station b = s.station b)
          ∧ t.host = { s.host with commandStatus :=
              { code := 7, arg := arg, decision := .done, detail := 0, index := 0 } }
          ∧ { t with stations := s.stations, host := s.host } = s)))
    ∧ ∀ (arg : Byte) (a : Address) (s : State), s.engine ≠ .init →
    (arg = 0 ∨ 62 < arg.toNat →
      exec (.forget arg) s = .next { s with host := { s.host with commandStatus :=
        { code := 8, arg := arg, decision := .refusedArgument, detail := 0, index := 0 } } })
    ∧ (62 < arg.toNat →
      exec (.clearSticky arg) s = .next { s with host := { s.host with commandStatus :=
        { code := 9, arg := arg, decision := .refusedArgument, detail := 0, index := 0 } } })
    ∧ (arg = 0 →
      ∃ t, exec (.clearSticky arg) s = .next t
        ∧ (∀ i : Fin 62, t.stations[i] = { s.stations[i] with sticky := 0 })
        ∧ t.host = { s.host with commandStatus :=
            { code := 9, arg := arg, decision := .done, detail := 0, index := 0 } }
        ∧ { t with stations := s.stations, host := s.host } = s)
    ∧ (arg.toNat = a.toNat → 1 ≤ a.toNat → a.toNat ≤ 62 →
      (∃ t, exec (.forget arg) s = .next t
        ∧ t.station a = { s.station a with
            state := .absent, identity := none, missCount := 0, nextTag := 0, sticky := 0 }
        ∧ (∀ b, b ≠ a → t.station b = s.station b)
        ∧ t.host = { s.host with commandStatus :=
            { code := 8, arg := arg, decision := .done, detail := 0, index := 0 } }
        ∧ { t with stations := s.stations, host := s.host } = s)
      ∧ ∃ t, exec (.clearSticky arg) s = .next t
        ∧ t.station a = { s.station a with sticky := 0 }
        ∧ (∀ b, b ≠ a → t.station b = s.station b)
        ∧ t.host = { s.host with commandStatus :=
            { code := 9, arg := arg, decision := .done, detail := 0, index := 0 } }
        ∧ { t with stations := s.stations, host := s.host } = s)

/-- A supervision update of a station in service: the station's record, and the LOST entry with the flags of its
post; where nothing is posted, the queue and the host's registers stand (R75, R76, R77). That a station is LOST at
or above the miss limit is the model's reading (log entry 21). -/
def Obligations.SupervisionUpdates : Prop :=
  (∀ x : StationState, x.inService = true ↔ x = .active ∨ x = .suspect)
    ∧ ∀ (s : State) (a : Address), (s.station a).state ∈ [.active, .suspect] →
    (s.supervise a true).station a = { s.station a with state := .active, missCount := 0 }
      ∧ (s.supervise a true).queue = s.queue ∧ (s.supervise a true).host = s.host
      ∧ ((s.station a).missCount + 1 < s.settings.missLimit →
          (s.supervise a false).station a =
              { s.station a with state := .suspect, missCount := (s.station a).missCount + 1 }
            ∧ (s.supervise a false).queue = s.queue ∧ (s.supervise a false).host = s.host)
      ∧ (s.settings.missLimit ≤ (s.station a).missCount + 1 →
          (s.supervise a false).station a = { s.station a with state := .lost, missCount := 0 }
            ∧ (s.supervise a false).queue =
              (s.post { Entry.blank .station 3 s.cycle.number with station := a }).queue
            ∧ (s.supervise a false).host =
              (s.post { Entry.blank .station 3 s.cycle.number with station := a }).host)
      ∧ ∀ answered, (∀ b, b ≠ a → (s.supervise a answered).station b = s.station b)
        ∧ { s.supervise a answered with
              stations := s.stations, queue := s.queue
              host := { (s.supervise a answered).host with intPending := s.host.intPending } } = s

/-- An accounting splits its kinds by the alert mask: the alert part goes into an ALERT entry with the ALERT flag
and the NOTIFY test of its post, or, refused by a full queue with OVERFLOW, into the sticky set; the sticky part
goes into the sticky set. No other flag and nothing else changes (R151, R152, R153, R154, R168, R171). -/
def Obligations.AccountingSplitsByTheAlertMask : Prop :=
  ∀ (s : State) (a : Address) (kinds : KindSet) (source : Entry) (mask : KindSet),
    1 ≤ a.toNat → a.toNat ≤ 62 → mask = (s.station a).alertMask →
    (kinds = 0 → s.account a kinds source = s)
    ∧ (kinds &&& mask = 0 →
      (s.account a kinds source).station a =
          { s.station a with sticky := (s.station a).sticky ||| kinds }
        ∧ (s.account a kinds source).queue = s.queue ∧ (s.account a kinds source).host = s.host)
    ∧ (kinds &&& mask ≠ 0 → s.queue.entries.length < 32 →
      (s.account a kinds source).station a =
          { s.station a with sticky := (s.station a).sticky ||| (kinds &&& ~~~mask) }
        ∧ (s.account a kinds source).queue =
          { s.queue with entries := s.queue.entries ++
              [{ source with station := a, cycle := s.cycle.number, causes := kinds &&& mask }] }
        ∧ (s.account a kinds source).flag .alert = true
        ∧ (s.account a kinds source).flag .notify =
          (s.flag .notify || decide (s.settings.notifyThreshold ≤ s.queue.entries.length + 1))
        ∧ ∀ f, f ≠ .alert → f ≠ .notify → (s.account a kinds source).flag f = s.flag f)
    ∧ (kinds &&& mask ≠ 0 → 32 ≤ s.queue.entries.length →
      (s.account a kinds source).station a =
          { s.station a with sticky := (s.station a).sticky ||| kinds }
        ∧ (s.account a kinds source).queue =
          { s.queue with overflow := min 255 (s.queue.overflow + 1) }
        ∧ (s.account a kinds source).flag .overflow = true
        ∧ ∀ f, f ≠ .overflow → (s.account a kinds source).flag f = s.flag f)
    ∧ (∀ b, b ≠ a → (s.account a kinds source).station b = s.station b)
    ∧ { s.account a kinds source with
          stations := s.stations, queue := s.queue
          host := { (s.account a kinds source).host with intPending := s.host.intPending } } = s

/-- A post is placed behind every entry, with the NOTIFY test on the count after it, or a full queue refuses it and
counts it; the other flags, INT_ENABLE, WINDOW_STATUS, COMMAND_STATUS and all else stand, as they do when any flag
is set (R165, R168, R171, R172).

A field that has no meaning for an entry's kind holds 0 (R162). -/
def Obligations.PostPlacesOrRefuses : Prop :=
  (∀ (kind : EntryKind) (code : BitVec 5) (cycle : BitVec 16),
      Entry.blank kind code cycle =
        { kind := kind, code := code, reissued := false, duplicate := false, late := false, ring := .u
          station := 0, index := 0, cycle := cycle, causes := 0 })
    ∧ ∀ (s : State) (e : Entry),
    (s.queue.entries.length < 32 →
      (s.post e).queue = { s.queue with entries := s.queue.entries ++ [e] }
        ∧ (s.post e).flag .notify =
          (s.flag .notify || decide (s.settings.notifyThreshold ≤ s.queue.entries.length + 1))
        ∧ ∀ f, f ≠ .notify → (s.post e).flag f = s.flag f)
    ∧ (32 ≤ s.queue.entries.length →
      (s.post e).queue = { s.queue with overflow := min 255 (s.queue.overflow + 1) }
        ∧ (s.post e).flag .overflow = true ∧ ∀ f, f ≠ .overflow → (s.post e).flag f = s.flag f)
    ∧ { s.post e with
          queue := s.queue, host := { (s.post e).host with intPending := s.host.intPending } } = s
    ∧ ∀ f : IntFlag, (∀ g, (s.raise f).flag g = (s.flag g || decide (g = f)))
      ∧ { s.raise f with host := { (s.raise f).host with intPending := s.host.intPending } } = s

/-! ### Ring commands and ring registers -/

/-- RING_ENABLE and RING_RESUME: their refusals, and the ring and the request queue they leave (R118, R131, R132,
R138, R179).
That no ring fetches while a request that a SOFT_RESET left begun is in the queue is the model's reading (log entry
25). -/
def Obligations.RingEnableAndResume : Prop :=
  ∀ (arg : Byte) (s : State) (r : Ring), s.engine ≠ .init →
    (1 < arg.toNat →
      exec (.ringEnable arg) s = .next { s with host := { s.host with commandStatus :=
        { code := 10, arg := arg, decision := .refusedArgument, detail := 0, index := 0 } } }
      ∧ exec (.ringResume arg) s = .next { s with host := { s.host with commandStatus :=
        { code := 11, arg := arg, decision := .refusedArgument, detail := 0, index := 0 } } })
    ∧ (arg.toNat = ringCode r →
      ((s.ringUnit r).state ≠ .off →
        exec (.ringEnable arg) s = .next { s with host := { s.host with commandStatus :=
          { code := 10, arg := arg, decision := .refusedState
            detail := BitVec.ofNat 4 (s.ringUnit r).state.code, index := 0 } } })
      ∧ ((s.ringUnit r).state = .off → (s.ringUnit r).length < 4 ∨ 256 < (s.ringUnit r).length →
        exec (.ringEnable arg) s = .next { s with host := { s.host with commandStatus :=
          { code := 10, arg := arg, decision := .refusedInvalid, detail := 0
            index := BitVec.ofNat 8 (s.ringUnit r).length } } })
      ∧ ((s.ringUnit r).state = .off → 4 ≤ (s.ringUnit r).length → (s.ringUnit r).length ≤ 256 →
        exec (.ringEnable arg) s = .next
          ((s.setRing r { s.ringUnit r with
            state := .active, head := 0, pending := 0, reason := .none, stage := .none }).setDecision
            10 arg .done 0 0))
      ∧ ((s.ringUnit r).state ≠ .halted →
        exec (.ringResume arg) s = .next { s with host := { s.host with commandStatus :=
          { code := 11, arg := arg, decision := .refusedState
            detail := BitVec.ofNat 4 (s.ringUnit r).state.code, index := 0 } } })
      ∧ ((s.ringUnit r).state = .halted → (s.ringUnit r).stage = .none →
        ∃ t, exec (.ringResume arg) s = .next t
          ∧ t.host = { s.host with commandStatus :=
              { code := 11, arg := arg, decision := .done, detail := 0, index := 0 } }
          ∧ ((s.ringUnit r).pending = 0 ∨ (∃ q ∈ s.requests, q.ring = r ∨ q.sole = true) →
              t.ringUnit r = { s.ringUnit r with state := .active, reason := .none }
              ∧ t.requests = s.requests)
          ∧ (0 < (s.ringUnit r).pending → (∀ q ∈ s.requests, q.ring ≠ r ∧ q.sole = false) →
              (∀ p rest, s.requests = p :: rest → p.begun = true) →
              t.ringUnit r = { s.ringUnit r with state := .active, reason := .none, stage := .fetching }
              ∧ t.requests = s.requests ++
                [{ kind := .recordRead, ring := r, index := BitVec.ofNat 8 (s.ringUnit r).head,
                   address := (s.ringUnit r).base + BitVec.ofNat 32 (32 * (s.ringUnit r).head), count := 24,
                   data := [], begun := s.requests.isEmpty, discarded := false, sole := false,
                   answered := 0, words := [] }])
          ∧ (t.ringUnit r).state = .active ∧ (t.ringUnit r).reason = .none
          ∧ (t.ringUnit r).head = (s.ringUnit r).head
          ∧ (t.ringUnit r).pending = (s.ringUnit r).pending
          ∧ (t.ringUnit r).postRefused = (s.ringUnit r).postRefused
          ∧ (∀ q, q ≠ r → t.ringUnit q = s.ringUnit q)
          ∧ { t with ringU := s.ringU, ringN := s.ringN, requests := s.requests, host := s.host } = s))

/-- RING_RESET, from every ring state: the ring is OFF with BASE and LENGTH kept, its requests dropped or
discarded, and its exchange orphaned, or, if it waits for a retry, ended with its supervision and accounting and
its result discarded (R57, R64, R133, R134, R144, R149, R184, R188). At the end of the begun request that it
discarded the outcome goes nowhere, the next request begins, and the ring's first fetch is issued behind it if the
ring may fetch (R118, R138, R144). That the selection point of R33 makes a selection owed only when no mark is
wanted is the model's reading (log entry 11), and that no ring fetches while a request that a SOFT_RESET left begun
is in the queue is another (log entry 25). -/
def Obligations.RingResetGivesUpTheRing : Prop :=
  (∀ (arg : Byte) (s : State) (r : Ring), s.engine ≠ .init →
    (1 < arg.toNat →
      exec (.ringReset arg) s = .next { s with host := { s.host with commandStatus :=
        { code := 12, arg := arg, decision := .refusedArgument, detail := 0, index := 0 } } })
    ∧ (arg.toNat = ringCode r →
      ∃ t, exec (.ringReset arg) s = .next t
        ∧ t.ringUnit r = { RingUnit.reset with
            base := (s.ringUnit r).base, length := (s.ringUnit r).length }
        ∧ (∀ q, q ≠ r → t.ringUnit q = s.ringUnit q)
        ∧ t.requests = (s.requests.filter fun q => decide (q.ring ≠ r) || q.begun).map (fun q =>
            if q.ring = r then { q with discarded := true } else q)
        ∧ t.host.commandStatus = { code := 12, arg := arg, decision := .done, detail := 0, index := 0 }
        ∧ ((∀ e i, s.context = some e → e.source = .ring r i → e.state ≠ .ending) →
            t.host = { s.host with commandStatus :=
              { code := 12, arg := arg, decision := .done, detail := 0, index := 0 } })
        ∧ ((∀ e i, s.context = some e → e.source ≠ .ring r i) →
            { t with ringU := s.ringU, ringN := s.ringN, requests := s.requests, host := s.host } = s)
        ∧ (∀ e i, s.context = some e → e.source = .ring r i → e.state ≠ .ending →
            t.context = some { e with orphaned := true }
            ∧ { t with
                  context := s.context, ringU := s.ringU, ringN := s.ringN, requests := s.requests,
                  host := s.host } = s)
        ∧ ∀ e i u, s.context = some e → e.source = .ring r i → e.state = .ending →
            u = (if e.station = 63 then s else s.supervise e.station e.answered).afterAccounting e.source
              e.station e.unaccounted →
            t.context = none ∧ t.closes (u.setDecision 12 arg .done 0 0) s.cycle.selecting ∧ t.keepsRest s))
    ∧ ∀ (s : State) (q : Request) (rest : List Request) (success : Bool) (word : Word) (fetches : Prop)
        (fetch : List Request),
      s.requests = q :: rest → q.begun = true → q.discarded = true → q.sole = false →
      (success = false ∨ q.transfers.length ≤ q.answered + 1) →
      (∀ p ∈ rest, p.begun = false) →
      (fetches ↔ (s.ringUnit q.ring).state = .active ∧ 0 < (s.ringUnit q.ring).pending
        ∧ (s.ringUnit q.ring).stage = .none ∧ ∀ p ∈ rest, p.ring ≠ q.ring ∧ p.sole = false) →
      (¬ fetches → fetch = []) →
      (fetches → fetch = [s.fetchRequest q.ring]) →
      ∃ t, exec (.memoryTransferAnswer success word) s = .next t
        ∧ (fetches → t.ringUnit q.ring = { s.ringUnit q.ring with stage := .fetching })
        ∧ (¬ fetches → t.ringUnit q.ring = s.ringUnit q.ring)
        ∧ (∀ r, r ≠ q.ring → t.ringUnit r = s.ringUnit r)
        ∧ t.servesNext (rest ++ fetch)
        ∧ { t with ringU := s.ringU, ringN := s.ringN, requests := s.requests } = s

/-- POST: refused in OFF, counted when it fits, refused whole when it would pass the length. In ACTIVE it is only
counted while the ring has a record or a request under way, and otherwise its RECORD_READ is issued, begun at once
on a free port (R116, R118, R138).
That no ring fetches while a request that a SOFT_RESET left begun is in the queue is the model's reading (log entry
25). -/
def Obligations.PostCountsRecords : Prop :=
  ∀ (s : State) (r : Ring) (data : Word) (n : Nat), s.engine ≠ .init →
    n = (data.extractLsb' 0 8).toNat →
    ((s.ringUnit r).state = .off →
      exec (.post r data) s = .next
        { s with host := { s.host with windowStatus := s.host.windowStatus ||| 1 } })
    ∧ ((s.ringUnit r).state ≠ .off → n = 0 → exec (.post r data) s = .next s)
    ∧ ((s.ringUnit r).state ≠ .off → (s.ringUnit r).length < (s.ringUnit r).pending + n → n ≠ 0 →
      exec (.post r data) s = .next (s.setRing r { s.ringUnit r with postRefused := true }))
    ∧ ((s.ringUnit r).state = .halted → (s.ringUnit r).pending + n ≤ (s.ringUnit r).length →
      exec (.post r data) s = .next
        (s.setRing r { s.ringUnit r with pending := (s.ringUnit r).pending + n }))
    ∧ ((s.ringUnit r).state = .active → (s.ringUnit r).pending + n ≤ (s.ringUnit r).length → n ≠ 0 →
      ((s.ringUnit r).stage ≠ .none ∨ ∃ q ∈ s.requests, q.ring = r ∨ q.sole = true) →
      exec (.post r data) s = .next
        (s.setRing r { s.ringUnit r with pending := (s.ringUnit r).pending + n }))
    ∧ ((s.ringUnit r).state = .active → (s.ringUnit r).pending + n ≤ (s.ringUnit r).length → n ≠ 0 →
      (s.ringUnit r).stage = .none → (∀ q ∈ s.requests, q.ring ≠ r ∧ q.sole = false) →
      (∀ p rest, s.requests = p :: rest → p.begun = true) →
      ∃ t, exec (.post r data) s = .next t
        ∧ t.ringUnit r = { s.ringUnit r with
            pending := (s.ringUnit r).pending + n, stage := .fetching }
        ∧ (∀ q, q ≠ r → t.ringUnit q = s.ringUnit q)
        ∧ t.requests = s.requests ++
          [{ kind := .recordRead, ring := r, index := BitVec.ofNat 8 (s.ringUnit r).head,
             address := (s.ringUnit r).base + BitVec.ofNat 32 (32 * (s.ringUnit r).head), count := 24,
             data := [], begun := s.requests.isEmpty, discarded := false, sole := false, answered := 0,
             words := [] }]
        ∧ { t with ringU := s.ringU, ringN := s.ringN, requests := s.requests } = s)

/-- The writes of ring STATUS, BASE and LENGTH (R112, R117). -/
def Obligations.RingRegisterWrites : Prop :=
  (∀ (s : State) (x : RingUnit),
      s.ringUnit .u = s.ringU ∧ s.ringUnit .n = s.ringN
        ∧ s.setRing .u x = { s with ringU := x } ∧ s.setRing .n x = { s with ringN := x })
    ∧ ∀ (s : State) (r : Ring) (data : Word), s.engine ≠ .init →
    exec (.ringStatusWrite r data) s = .next
      (if data.getLsbD 5 then s.setRing r { s.ringUnit r with postRefused := false } else s)
    ∧ ((s.ringUnit r).state = .off →
      exec (.baseWrite r data) s = .next
        (s.setRing r { s.ringUnit r with base := BitVec.ofNat 32 (data.toNat / 32 * 32) })
      ∧ exec (.lengthWrite r data) s = .next
        (s.setRing r { s.ringUnit r with length := data.toNat % 512 }))
    ∧ ((s.ringUnit r).state ≠ .off →
      exec (.baseWrite r data) s = .next
        { s with host := { s.host with windowStatus := s.host.windowStatus ||| 1 } }
      ∧ exec (.lengthWrite r data) s = .next
        { s with host := { s.host with windowStatus := s.host.windowStatus ||| 1 } })

/-! ### Register writes -/

/-- The writes of QUEUE_POP, INT_PENDING, INT_ENABLE and WINDOW_STATUS, and the level of INT (R167, R173,
R174, R193). -/
def Obligations.QueueAndFlagWrites : Prop :=
  (([.notify, .mark, .alert, .ring, .line, .halted, .overflow] : List IntFlag).map (·.bit) = List.range 7
      ∧ [Misuse.writeRefused, .writeClamped, .narrowWrite].map (·.bit) = List.range 3
      ∧ ∀ (s : State) (f : IntFlag), s.flag f = s.host.intPending.getLsbD f.bit)
    ∧ ∀ (s : State) (data : Word), s.engine ≠ .init →
    exec (.queuePop data) s = .next
      { s with queue := { s.queue with entries := s.queue.entries.drop 1 } }
    ∧ (∃ t, exec (.intPendingWrite data) s = .next t
      ∧ (∀ f : IntFlag, t.flag f = (s.flag f && !data.getLsbD f.bit))
      ∧ { t with host := { t.host with intPending := s.host.intPending } } = s)
    ∧ (∃ t, exec (.intEnableWrite data) s = .next t
      ∧ (∀ f : IntFlag, t.host.intEnable.getLsbD f.bit = data.getLsbD f.bit)
      ∧ (t.intAsserted = true ↔ ∃ f : IntFlag, s.flag f = true ∧ data.getLsbD f.bit = true)
      ∧ { t with host := { t.host with intEnable := s.host.intEnable } } = s)
    ∧ ∃ t, exec (.windowStatusWrite data) s = .next t
      ∧ (∀ m : Misuse, t.host.windowStatus.getLsbD m.bit =
          (s.host.windowStatus.getLsbD m.bit && !data.getLsbD m.bit))
      ∧ { t with host := { t.host with windowStatus := s.host.windowStatus } } = s

/-- LINE_CONFIG and CYCLE_PERIOD are taken in HALTED alone; GUARD, ROLLCALL_CONFIG and NOTIFY_THRESHOLD in every
state but INIT. Each field stored is the nearest of its range, with WRITE_CLAMPED when that changed it (R1, R22,
R36, R171, R191, R192). That a cell in progress keeps its count of bit times over a write of LINE_CONFIG is the
model's choice (log entry 27). -/
def Obligations.ConfigurationWrites : Prop :=
  (∀ (s : State) (data : Word),
    (s.engine ≠ .init → s.engine ≠ .halted →
      exec (.lineConfigWrite data) s = .next
        { s with host := { s.host with windowStatus := s.host.windowStatus ||| 1 } }
      ∧ exec (.cyclePeriodWrite data) s = .next
        { s with host := { s.host with windowStatus := s.host.windowStatus ||| 1 } })
    ∧ (s.engine = .halted →
      exec (.lineConfigWrite data) s = .next
        { s with
          settings := { s.settings with bitRate := BitVec.ofNat 2 (min 3 (data.toNat % 8)) }
          line := { s.line with idleRun := 0 }
          host := { s.host with windowStatus :=
            if 3 < data.toNat % 8 then s.host.windowStatus ||| 2 else s.host.windowStatus } }
      ∧ exec (.cyclePeriodWrite data) s = .next
        { s with
          settings := { s.settings with period := max 2000 (data.toNat % 1048576) }
          host := { s.host with windowStatus :=
            if data.toNat % 1048576 < 2000 then s.host.windowStatus ||| 2 else s.host.windowStatus } }))
    ∧ ∀ (s : State) (data : Word) (interval window threshold : Nat), s.engine ≠ .init →
    interval = data.toNat / 256 % 256 → window = data.toNat / 65536 % 2048 →
    threshold = data.toNat % 64 →
    exec (.guardWrite data) s = .next
      { s with
        settings := { s.settings with guard := max 24 (data.toNat % 4096) }
        host := { s.host with windowStatus :=
          if data.toNat % 4096 < 24 then s.host.windowStatus ||| 2 else s.host.windowStatus } }
    ∧ exec (.rollcallConfigWrite data) s = .next
      { s with
        settings := { s.settings with
          rollEnable := data.getLsbD 0, rollInterval := max 1 interval
          rollWindow := max 16 (min window 1023) }
        host := { s.host with windowStatus :=
          if interval = 0 ∨ window < 16 ∨ 1023 < window then s.host.windowStatus ||| 2
          else s.host.windowStatus } }
    ∧ exec (.notifyThresholdWrite data) s = .next
      { s with
        settings := { s.settings with notifyThreshold := max 1 (min threshold 32) }
        host := { s.host with windowStatus :=
          if threshold = 0 ∨ 32 < threshold then s.host.windowStatus ||| 2
          else s.host.windowStatus } }

/-- MISS_LIMIT: the limit is stored, and every SUSPECT station at or above it enters LOST with its own entry, in
ascending address order; no other station changes (R78, R192). -/
def Obligations.MissLimitWriteLosesStations : Prop :=
  ∀ (s : State) (data : Word) (limit : Nat), s.engine ≠ .init → limit = max 1 (data.toNat % 8) →
    ∃ t, exec (.missLimitWrite data) s = .next t
      ∧ t.settings = { s.settings with missLimit := limit }
      ∧ (∀ i : Fin 62, t.stations[i] =
          if (s.stations[i]).state = .suspect ∧ limit ≤ (s.stations[i]).missCount then
            { s.stations[i] with state := .lost, missCount := 0 }
          else s.stations[i])
      ∧ (∀ posted : State, posted =
            ((List.finRange 62).filter fun i =>
              decide ((s.stations[i]).state = .suspect ∧ limit ≤ (s.stations[i]).missCount)).foldl
            (fun u i => u.post { Entry.blank .station 3 s.cycle.number with
              station := BitVec.ofNat 6 (i.val + 1) }) s →
          t.queue = posted.queue
          ∧ t.host = { posted.host with windowStatus :=
              if data.toNat % 8 = 0 then s.host.windowStatus ||| 2 else s.host.windowStatus })
      ∧ { t with settings := s.settings, stations := s.stations, queue := s.queue, host := s.host } = s

/-- HOLD_MASK, SLOT_SELECT and the three slot registers: the slot registers write the selected slot of the edit
page, the active page never, and are refused while a swap is pending (R89, R92, R93, R101). -/
def Obligations.ScheduleRegisterWrites : Prop :=
  (∀ x : Schedule,
      x.activePage = (match x.active with | .zero => x.page0 | .one => x.page1)
        ∧ x.editPage = (match x.active with | .zero => x.page1 | .one => x.page0)
        ∧ x.active.other = (match x.active with | .zero => .one | .one => .zero))
    ∧ ∀ (s : State) (register : SlotRegister) (data : Word), s.engine ≠ .init →
    exec (.holdMaskWrite data) s = .next { s with schedule := { s.schedule with hold := data } }
    ∧ (∃ t, exec (.slotSelectWrite data) s = .next t
      ∧ t.schedule.select.val = data.toNat % 32
      ∧ t.schedule.view = (if data.getLsbD 8 then .active else .edit)
      ∧ { t with schedule := { t.schedule with
          select := s.schedule.select, view := s.schedule.view } } = s)
    ∧ (s.schedule.swapPending = true →
      exec (.slotRegisterWrite register data) s = .next
        { s with host := { s.host with windowStatus := s.host.windowStatus ||| 1 } })
    ∧ (s.schedule.swapPending = false →
      ∃ t, exec (.slotRegisterWrite register data) s = .next t
        ∧ t.schedule.activePage = s.schedule.activePage
        ∧ (∀ i : Fin 32, i ≠ s.schedule.select → t.schedule.editPage[i] = s.schedule.editPage[i])
        ∧ t.schedule.editPage[s.schedule.select] =
            (match register with
              | .station => { s.schedule.editPage[s.schedule.select] with
                  station := data.extractLsb' 0 6, function := data.extractLsb' 8 4
                  rate := data.extractLsb' 16 5, phase := data.extractLsb' 24 4
                  report :=
                    if data.toNat / 268435456 % 4 = 0 then .never
                    else if data.toNat / 268435456 % 4 = 1 then .onFault else .always
                  enable := data.getLsbD 31 }
              | .outArea => { s.schedule.editPage[s.schedule.select] with
                  outOffset := data.extractLsb' 0 12, outLength := data.extractLsb' 16 8 }
              | .inArea => { s.schedule.editPage[s.schedule.select] with
                  inOffset := data.extractLsb' 0 12, inCapacity := data.extractLsb' 16 8 })
        ∧ t.host = { s.host with windowStatus :=
            if register = .station ∧ data.toNat / 268435456 % 4 = 3 then s.host.windowStatus ||| 2
            else s.host.windowStatus }
        ∧ { t.schedule with page0 := s.schedule.page0, page1 := s.schedule.page1 } = s.schedule
        ∧ { t with schedule := s.schedule, host := s.host } = s)

/-- STATION_SELECT and STATION_CONFIG (R86, R87, R192, R195).

The record of an address is one of 62 (R65); that addresses 0 and 63 read as a reset record is the model's choice
(log entry 18). -/
def Obligations.StationRegisterWrites : Prop :=
  (∀ (s : State) (a : Address),
      (∀ i : Fin 62, a.toNat = i.val + 1 → s.station a = s.stations[i])
        ∧ (a = 0 ∨ a = 63 → s.station a = Station.reset))
    ∧ (∀ x : Station,
      (x.identity = none → x.maxPayload = 0) ∧ ∀ id, x.identity = some id → x.maxPayload = id.maxPayload)
    ∧ ∀ (s : State) (data : Word) (window : Nat), s.engine ≠ .init → window = data.toNat % 2048 →
    (∃ t, exec (.stationSelectWrite data) s = .next t
      ∧ t.stationSelect.toNat = max 1 (min (data.toNat % 256) 62)
      ∧ t.host = { s.host with windowStatus :=
          if data.toNat % 256 = 0 ∨ 62 < data.toNat % 256 then s.host.windowStatus ||| 2
          else s.host.windowStatus }
      ∧ { t with stationSelect := s.stationSelect, host := s.host } = s)
    ∧ (1 ≤ s.stationSelect.toNat → s.stationSelect.toNat ≤ 62 →
      ∃ t, exec (.stationConfigWrite data) s = .next t
        ∧ t.station s.stationSelect = { s.station s.stationSelect with
            window := max 16 (min window 1023), alertMask := data.extractLsb' 16 10
            search := data.getLsbD 31 }
        ∧ (∀ a, a ≠ s.stationSelect → t.station a = s.station a)
        ∧ t.host = { s.host with windowStatus :=
            if window < 16 ∨ 1023 < window then s.host.windowStatus ||| 2 else s.host.windowStatus }
        ∧ { t with stations := s.stations, host := s.host } = s)

/-- EXMEM_ADDR and EXMEM_DATA: the word at the address, least significant byte first, the advance by 4 with its
wrap, and every other byte as before (R107, R108).
The word that a read hands over stands in a field of the model's own (log entry 13). -/
def Obligations.ExchangeMemoryAccess : Prop :=
  ∀ (s : State) (data : Word), s.engine ≠ .init → s.exmem.wf = true → s.exmemAddr.toNat % 4 = 0 →
    (∃ t, exec (.exmemAddrWrite data) s = .next t ∧ t.exmemAddr.toNat = data.toNat % 4096 / 4 * 4
      ∧ { t with exmemAddr := s.exmemAddr } = s)
    ∧ (∃ t, exec .exmemDataRead s = .next t
      ∧ t.host.readData.toNat =
          (s.exmem.byteAt s.exmemAddr.toNat).toNat
            + 256 * (s.exmem.byteAt (s.exmemAddr.toNat + 1)).toNat
            + 65536 * (s.exmem.byteAt (s.exmemAddr.toNat + 2)).toNat
            + 16777216 * (s.exmem.byteAt (s.exmemAddr.toNat + 3)).toNat
      ∧ t.exmemAddr.toNat = (s.exmemAddr.toNat + 4) % 4096
      ∧ { t with exmemAddr := s.exmemAddr, host := { t.host with readData := s.host.readData } } = s)
    ∧ ∃ t, exec (.exmemDataWrite data) s = .next t
      ∧ (∀ a, a < 4096 →
          t.exmem.byteAt a =
            if s.exmemAddr.toNat ≤ a ∧ a < s.exmemAddr.toNat + 4 then
              BitVec.ofNat 8 (data.toNat / 256 ^ (a - s.exmemAddr.toNat))
            else s.exmem.byteAt a)
      ∧ t.exmemAddr.toNat = (s.exmemAddr.toNat + 4) % 4096
      ∧ { t with exmem := s.exmem, exmemAddr := s.exmemAddr } = s
end

