-- ==== Sys2Proof/Laws/State.lean ====
section
/-! SUPPORT. What each shared operation of Flags, Ops and Time leaves unchanged, field by field; every conjunct is a
simp lemma, so no later proof unfolds a record update. -/

namespace Sys2Proof.Machine

/-- Setting an interrupt flag changes INT_PENDING and nothing else (R172). -/
@[simp] theorem State.raise_frame (s : State) (f : IntFlag) :
    (s.raise f).engine = s.engine ∧ (s.raise f).resetAsserted = s.resetAsserted ∧ (s.raise f).line = s.line ∧
      (s.raise f).cycle = s.cycle ∧ (s.raise f).settings = s.settings ∧ (s.raise f).context = s.context ∧
      (s.raise f).lateWatch = s.lateWatch ∧ (s.raise f).lateFrame = s.lateFrame ∧
      (s.raise f).stations = s.stations ∧ (s.raise f).stationSelect = s.stationSelect ∧
      (s.raise f).schedule = s.schedule ∧ (s.raise f).exmem = s.exmem ∧ (s.raise f).exmemAddr = s.exmemAddr ∧
      (s.raise f).ringU = s.ringU ∧ (s.raise f).ringN = s.ringN ∧ (s.raise f).requests = s.requests ∧
      (s.raise f).orderIndex = s.orderIndex ∧ (s.raise f).queue = s.queue ∧ (s.raise f).pending = s.pending ∧
      (s.raise f).host.intEnable = s.host.intEnable ∧ (s.raise f).host.windowStatus = s.host.windowStatus ∧
      (s.raise f).host.commandStatus = s.host.commandStatus ∧ (s.raise f).host.readData = s.host.readData := by
  simp [State.raise]

/-- Setting a misuse flag changes WINDOW_STATUS and nothing else (R193). -/
@[simp] theorem State.misuse_frame (s : State) (m : Misuse) :
    (s.misuse m).engine = s.engine ∧ (s.misuse m).resetAsserted = s.resetAsserted ∧
      (s.misuse m).line = s.line ∧ (s.misuse m).cycle = s.cycle ∧ (s.misuse m).settings = s.settings ∧
      (s.misuse m).context = s.context ∧ (s.misuse m).lateWatch = s.lateWatch ∧
      (s.misuse m).lateFrame = s.lateFrame ∧ (s.misuse m).stations = s.stations ∧
      (s.misuse m).stationSelect = s.stationSelect ∧ (s.misuse m).schedule = s.schedule ∧
      (s.misuse m).exmem = s.exmem ∧ (s.misuse m).exmemAddr = s.exmemAddr ∧ (s.misuse m).ringU = s.ringU ∧
      (s.misuse m).ringN = s.ringN ∧ (s.misuse m).requests = s.requests ∧
      (s.misuse m).orderIndex = s.orderIndex ∧ (s.misuse m).queue = s.queue ∧
      (s.misuse m).pending = s.pending ∧ (s.misuse m).host.intPending = s.host.intPending ∧
      (s.misuse m).host.intEnable = s.host.intEnable ∧ (s.misuse m).host.commandStatus = s.host.commandStatus ∧
      (s.misuse m).host.readData = s.host.readData := by
  simp [State.misuse]

/-- The clamp's flag changes WINDOW_STATUS and nothing else (R192). -/
@[simp] theorem State.clampedIf_frame (s : State) (b : Bool) :
    (s.clampedIf b).engine = s.engine ∧ (s.clampedIf b).resetAsserted = s.resetAsserted ∧
      (s.clampedIf b).line = s.line ∧ (s.clampedIf b).cycle = s.cycle ∧ (s.clampedIf b).settings = s.settings ∧
      (s.clampedIf b).context = s.context ∧ (s.clampedIf b).lateWatch = s.lateWatch ∧
      (s.clampedIf b).lateFrame = s.lateFrame ∧ (s.clampedIf b).stations = s.stations ∧
      (s.clampedIf b).stationSelect = s.stationSelect ∧ (s.clampedIf b).schedule = s.schedule ∧
      (s.clampedIf b).exmem = s.exmem ∧ (s.clampedIf b).exmemAddr = s.exmemAddr ∧
      (s.clampedIf b).ringU = s.ringU ∧ (s.clampedIf b).ringN = s.ringN ∧
      (s.clampedIf b).requests = s.requests ∧ (s.clampedIf b).orderIndex = s.orderIndex ∧
      (s.clampedIf b).queue = s.queue ∧ (s.clampedIf b).pending = s.pending ∧
      (s.clampedIf b).host.intPending = s.host.intPending ∧ (s.clampedIf b).host.intEnable = s.host.intEnable ∧
      (s.clampedIf b).host.commandStatus = s.host.commandStatus ∧
      (s.clampedIf b).host.readData = s.host.readData := by
  unfold State.clampedIf; repeat' split
  all_goals simp

/-- A decision replaces COMMAND_STATUS and changes nothing else (R179). -/
@[simp] theorem State.setDecision_frame (s : State) (code arg : Byte) (d : Decision) (k : BitVec 4) (i : Byte) :
    (s.setDecision code arg d k i).engine = s.engine ∧
      (s.setDecision code arg d k i).resetAsserted = s.resetAsserted ∧
      (s.setDecision code arg d k i).line = s.line ∧ (s.setDecision code arg d k i).cycle = s.cycle ∧
      (s.setDecision code arg d k i).settings = s.settings ∧
      (s.setDecision code arg d k i).context = s.context ∧
      (s.setDecision code arg d k i).lateWatch = s.lateWatch ∧
      (s.setDecision code arg d k i).lateFrame = s.lateFrame ∧
      (s.setDecision code arg d k i).stations = s.stations ∧
      (s.setDecision code arg d k i).stationSelect = s.stationSelect ∧
      (s.setDecision code arg d k i).schedule = s.schedule ∧ (s.setDecision code arg d k i).exmem = s.exmem ∧
      (s.setDecision code arg d k i).exmemAddr = s.exmemAddr ∧ (s.setDecision code arg d k i).ringU = s.ringU ∧
      (s.setDecision code arg d k i).ringN = s.ringN ∧ (s.setDecision code arg d k i).requests = s.requests ∧
      (s.setDecision code arg d k i).orderIndex = s.orderIndex ∧
      (s.setDecision code arg d k i).queue = s.queue ∧ (s.setDecision code arg d k i).pending = s.pending ∧
      (s.setDecision code arg d k i).host.intPending = s.host.intPending ∧
      (s.setDecision code arg d k i).host.intEnable = s.host.intEnable ∧
      (s.setDecision code arg d k i).host.windowStatus = s.host.windowStatus ∧
      (s.setDecision code arg d k i).host.readData = s.host.readData ∧
      (s.setDecision code arg d k i).host.commandStatus = { code := code, arg := arg, decision := d, detail := k, index := i } := by
  simp [State.setDecision]

/-- A post changes the queue and interrupt flags and nothing else (R165, R168). -/
@[simp] theorem State.post_frame (s : State) (e : Entry) :
    (s.post e).engine = s.engine ∧ (s.post e).resetAsserted = s.resetAsserted ∧ (s.post e).line = s.line ∧
      (s.post e).cycle = s.cycle ∧ (s.post e).settings = s.settings ∧ (s.post e).context = s.context ∧
      (s.post e).lateWatch = s.lateWatch ∧ (s.post e).lateFrame = s.lateFrame ∧
      (s.post e).stations = s.stations ∧ (s.post e).stationSelect = s.stationSelect ∧
      (s.post e).schedule = s.schedule ∧ (s.post e).exmem = s.exmem ∧ (s.post e).exmemAddr = s.exmemAddr ∧
      (s.post e).ringU = s.ringU ∧ (s.post e).ringN = s.ringN ∧ (s.post e).requests = s.requests ∧
      (s.post e).orderIndex = s.orderIndex ∧ (s.post e).pending = s.pending ∧
      (s.post e).host.intEnable = s.host.intEnable ∧ (s.post e).host.windowStatus = s.host.windowStatus ∧
      (s.post e).host.commandStatus = s.host.commandStatus ∧ (s.post e).host.readData = s.host.readData := by
  unfold State.post; repeat' split
  all_goals simp

/-- A STATION entry changes what a post changes (R163). -/
@[simp] theorem State.postStation_frame (s : State) (a : Address) (code : BitVec 5) (b : Bool) :
    (s.postStation a code b).engine = s.engine ∧ (s.postStation a code b).resetAsserted = s.resetAsserted ∧
      (s.postStation a code b).line = s.line ∧ (s.postStation a code b).cycle = s.cycle ∧
      (s.postStation a code b).settings = s.settings ∧ (s.postStation a code b).context = s.context ∧
      (s.postStation a code b).lateWatch = s.lateWatch ∧ (s.postStation a code b).lateFrame = s.lateFrame ∧
      (s.postStation a code b).stations = s.stations ∧
      (s.postStation a code b).stationSelect = s.stationSelect ∧
      (s.postStation a code b).schedule = s.schedule ∧ (s.postStation a code b).exmem = s.exmem ∧
      (s.postStation a code b).exmemAddr = s.exmemAddr ∧ (s.postStation a code b).ringU = s.ringU ∧
      (s.postStation a code b).ringN = s.ringN ∧ (s.postStation a code b).requests = s.requests ∧
      (s.postStation a code b).orderIndex = s.orderIndex ∧ (s.postStation a code b).pending = s.pending ∧
      (s.postStation a code b).host.intEnable = s.host.intEnable ∧
      (s.postStation a code b).host.windowStatus = s.host.windowStatus ∧
      (s.postStation a code b).host.commandStatus = s.host.commandStatus ∧
      (s.postStation a code b).host.readData = s.host.readData := by
  simp [State.postStation]

/-- Replacing a record changes the Station Table and nothing else (R65). -/
@[simp] theorem State.setStation_frame (s : State) (a : Address) (r : Station) :
    (s.setStation a r).engine = s.engine ∧ (s.setStation a r).resetAsserted = s.resetAsserted ∧
      (s.setStation a r).line = s.line ∧ (s.setStation a r).cycle = s.cycle ∧
      (s.setStation a r).settings = s.settings ∧ (s.setStation a r).context = s.context ∧
      (s.setStation a r).lateWatch = s.lateWatch ∧ (s.setStation a r).lateFrame = s.lateFrame ∧
      (s.setStation a r).stationSelect = s.stationSelect ∧ (s.setStation a r).schedule = s.schedule ∧
      (s.setStation a r).exmem = s.exmem ∧ (s.setStation a r).exmemAddr = s.exmemAddr ∧
      (s.setStation a r).ringU = s.ringU ∧ (s.setStation a r).ringN = s.ringN ∧
      (s.setStation a r).requests = s.requests ∧ (s.setStation a r).orderIndex = s.orderIndex ∧
      (s.setStation a r).queue = s.queue ∧ (s.setStation a r).host = s.host ∧
      (s.setStation a r).pending = s.pending := by
  unfold State.setStation; repeat' split
  all_goals simp

/-- The entry to LOST changes the Station Table and what a post changes (R77). -/
@[simp] theorem State.enterLost_frame (s : State) (a : Address) :
    (s.enterLost a).engine = s.engine ∧ (s.enterLost a).resetAsserted = s.resetAsserted ∧
      (s.enterLost a).line = s.line ∧ (s.enterLost a).cycle = s.cycle ∧ (s.enterLost a).settings = s.settings ∧
      (s.enterLost a).context = s.context ∧ (s.enterLost a).lateWatch = s.lateWatch ∧
      (s.enterLost a).lateFrame = s.lateFrame ∧ (s.enterLost a).stationSelect = s.stationSelect ∧
      (s.enterLost a).schedule = s.schedule ∧ (s.enterLost a).exmem = s.exmem ∧
      (s.enterLost a).exmemAddr = s.exmemAddr ∧ (s.enterLost a).ringU = s.ringU ∧
      (s.enterLost a).ringN = s.ringN ∧ (s.enterLost a).requests = s.requests ∧
      (s.enterLost a).orderIndex = s.orderIndex ∧ (s.enterLost a).pending = s.pending ∧
      (s.enterLost a).host.intEnable = s.host.intEnable ∧
      (s.enterLost a).host.windowStatus = s.host.windowStatus ∧
      (s.enterLost a).host.commandStatus = s.host.commandStatus ∧
      (s.enterLost a).host.readData = s.host.readData := by
  simp [State.enterLost]

/-- A supervision update changes the Station Table and what a post changes (R75, R76). -/
@[simp] theorem State.supervise_frame (s : State) (a : Address) (b : Bool) :
    (s.supervise a b).engine = s.engine ∧ (s.supervise a b).resetAsserted = s.resetAsserted ∧
      (s.supervise a b).line = s.line ∧ (s.supervise a b).cycle = s.cycle ∧
      (s.supervise a b).settings = s.settings ∧ (s.supervise a b).context = s.context ∧
      (s.supervise a b).lateWatch = s.lateWatch ∧ (s.supervise a b).lateFrame = s.lateFrame ∧
      (s.supervise a b).stationSelect = s.stationSelect ∧ (s.supervise a b).schedule = s.schedule ∧
      (s.supervise a b).exmem = s.exmem ∧ (s.supervise a b).exmemAddr = s.exmemAddr ∧
      (s.supervise a b).ringU = s.ringU ∧ (s.supervise a b).ringN = s.ringN ∧
      (s.supervise a b).requests = s.requests ∧ (s.supervise a b).orderIndex = s.orderIndex ∧
      (s.supervise a b).pending = s.pending ∧ (s.supervise a b).host.intEnable = s.host.intEnable ∧
      (s.supervise a b).host.windowStatus = s.host.windowStatus ∧
      (s.supervise a b).host.commandStatus = s.host.commandStatus ∧
      (s.supervise a b).host.readData = s.host.readData := by
  unfold State.supervise; dsimp only; repeat' split
  all_goals simp

/-- Adding to a sticky set changes the Station Table and nothing else (R151). -/
@[simp] theorem State.addSticky_frame (s : State) (a : Address) (k : KindSet) :
    (s.addSticky a k).engine = s.engine ∧ (s.addSticky a k).resetAsserted = s.resetAsserted ∧
      (s.addSticky a k).line = s.line ∧ (s.addSticky a k).cycle = s.cycle ∧
      (s.addSticky a k).settings = s.settings ∧ (s.addSticky a k).context = s.context ∧
      (s.addSticky a k).lateWatch = s.lateWatch ∧ (s.addSticky a k).lateFrame = s.lateFrame ∧
      (s.addSticky a k).stationSelect = s.stationSelect ∧ (s.addSticky a k).schedule = s.schedule ∧
      (s.addSticky a k).exmem = s.exmem ∧ (s.addSticky a k).exmemAddr = s.exmemAddr ∧
      (s.addSticky a k).ringU = s.ringU ∧ (s.addSticky a k).ringN = s.ringN ∧
      (s.addSticky a k).requests = s.requests ∧ (s.addSticky a k).orderIndex = s.orderIndex ∧
      (s.addSticky a k).queue = s.queue ∧ (s.addSticky a k).host = s.host ∧
      (s.addSticky a k).pending = s.pending := by
  simp [State.addSticky]

/-- Posting an alert part changes the Station Table and what a post changes (R153). -/
@[simp] theorem State.alert_frame (s : State) (e : Entry) :
    (s.alert e).engine = s.engine ∧ (s.alert e).resetAsserted = s.resetAsserted ∧ (s.alert e).line = s.line ∧
      (s.alert e).cycle = s.cycle ∧ (s.alert e).settings = s.settings ∧ (s.alert e).context = s.context ∧
      (s.alert e).lateWatch = s.lateWatch ∧ (s.alert e).lateFrame = s.lateFrame ∧
      (s.alert e).stationSelect = s.stationSelect ∧ (s.alert e).schedule = s.schedule ∧
      (s.alert e).exmem = s.exmem ∧ (s.alert e).exmemAddr = s.exmemAddr ∧ (s.alert e).ringU = s.ringU ∧
      (s.alert e).ringN = s.ringN ∧ (s.alert e).requests = s.requests ∧ (s.alert e).orderIndex = s.orderIndex ∧
      (s.alert e).pending = s.pending ∧ (s.alert e).host.intEnable = s.host.intEnable ∧
      (s.alert e).host.windowStatus = s.host.windowStatus ∧
      (s.alert e).host.commandStatus = s.host.commandStatus ∧ (s.alert e).host.readData = s.host.readData := by
  unfold State.alert; repeat' split
  all_goals simp

/-- An accounting changes the Station Table and what a post changes (R151). -/
@[simp] theorem State.account_frame (s : State) (a : Address) (k : KindSet) (e : Entry) :
    (s.account a k e).engine = s.engine ∧ (s.account a k e).resetAsserted = s.resetAsserted ∧
      (s.account a k e).line = s.line ∧ (s.account a k e).cycle = s.cycle ∧
      (s.account a k e).settings = s.settings ∧ (s.account a k e).context = s.context ∧
      (s.account a k e).lateWatch = s.lateWatch ∧ (s.account a k e).lateFrame = s.lateFrame ∧
      (s.account a k e).stationSelect = s.stationSelect ∧ (s.account a k e).schedule = s.schedule ∧
      (s.account a k e).exmem = s.exmem ∧ (s.account a k e).exmemAddr = s.exmemAddr ∧
      (s.account a k e).ringU = s.ringU ∧ (s.account a k e).ringN = s.ringN ∧
      (s.account a k e).requests = s.requests ∧ (s.account a k e).orderIndex = s.orderIndex ∧
      (s.account a k e).pending = s.pending ∧ (s.account a k e).host.intEnable = s.host.intEnable ∧
      (s.account a k e).host.windowStatus = s.host.windowStatus ∧
      (s.account a k e).host.commandStatus = s.host.commandStatus ∧
      (s.account a k e).host.readData = s.host.readData := by
  unfold State.account; dsimp only; repeat' split
  all_goals simp

/-- A slot's result changes the in-area, the slot status table and what a post changes (R104, R105, R106). -/
@[simp] theorem State.slotResult_frame (s : State) (i : Fin 32) (r : Result) (k : KindSet) (p : List Byte) :
    (s.slotResult i r k p).engine = s.engine ∧ (s.slotResult i r k p).resetAsserted = s.resetAsserted ∧
      (s.slotResult i r k p).line = s.line ∧ (s.slotResult i r k p).cycle = s.cycle ∧
      (s.slotResult i r k p).settings = s.settings ∧ (s.slotResult i r k p).context = s.context ∧
      (s.slotResult i r k p).lateWatch = s.lateWatch ∧ (s.slotResult i r k p).lateFrame = s.lateFrame ∧
      (s.slotResult i r k p).stations = s.stations ∧ (s.slotResult i r k p).stationSelect = s.stationSelect ∧
      (s.slotResult i r k p).exmemAddr = s.exmemAddr ∧ (s.slotResult i r k p).ringU = s.ringU ∧
      (s.slotResult i r k p).ringN = s.ringN ∧ (s.slotResult i r k p).requests = s.requests ∧
      (s.slotResult i r k p).orderIndex = s.orderIndex ∧ (s.slotResult i r k p).pending = s.pending ∧
      (s.slotResult i r k p).schedule.page0 = s.schedule.page0 ∧
      (s.slotResult i r k p).schedule.page1 = s.schedule.page1 ∧
      (s.slotResult i r k p).schedule.active = s.schedule.active ∧
      (s.slotResult i r k p).schedule.swapPending = s.schedule.swapPending ∧
      (s.slotResult i r k p).schedule.hold = s.schedule.hold ∧
      (s.slotResult i r k p).schedule.select = s.schedule.select ∧
      (s.slotResult i r k p).schedule.view = s.schedule.view ∧
      (s.slotResult i r k p).host.intEnable = s.host.intEnable ∧
      (s.slotResult i r k p).host.windowStatus = s.host.windowStatus ∧
      (s.slotResult i r k p).host.commandStatus = s.host.commandStatus ∧
      (s.slotResult i r k p).host.readData = s.host.readData := by
  unfold State.slotResult; dsimp only; repeat' split
  all_goals simp

/-- What applying a swap changes (R98). -/
@[simp] theorem State.applySwap_frame (s : State) :
    (s.applySwap).engine = s.engine ∧ (s.applySwap).resetAsserted = s.resetAsserted ∧
      (s.applySwap).line = s.line ∧ (s.applySwap).cycle = s.cycle ∧ (s.applySwap).settings = s.settings ∧
      (s.applySwap).context = s.context ∧ (s.applySwap).lateWatch = s.lateWatch ∧
      (s.applySwap).lateFrame = s.lateFrame ∧ (s.applySwap).stations = s.stations ∧
      (s.applySwap).stationSelect = s.stationSelect ∧ (s.applySwap).exmem = s.exmem ∧
      (s.applySwap).exmemAddr = s.exmemAddr ∧ (s.applySwap).ringU = s.ringU ∧ (s.applySwap).ringN = s.ringN ∧
      (s.applySwap).requests = s.requests ∧ (s.applySwap).orderIndex = s.orderIndex ∧
      (s.applySwap).pending = s.pending ∧ (s.applySwap).schedule.page0 = s.schedule.page0 ∧
      (s.applySwap).schedule.page1 = s.schedule.page1 ∧ (s.applySwap).schedule.hold = s.schedule.hold ∧
      (s.applySwap).schedule.select = s.schedule.select ∧ (s.applySwap).schedule.view = s.schedule.view ∧
      (s.applySwap).host.intEnable = s.host.intEnable ∧ (s.applySwap).host.windowStatus = s.host.windowStatus ∧
      (s.applySwap).host.commandStatus = s.host.commandStatus ∧ (s.applySwap).host.readData = s.host.readData ∧
      s.applySwap.schedule.active = s.schedule.active.other ∧
      s.applySwap.schedule.status = Vector.replicate 32 none ∧ s.applySwap.schedule.swapPending = false := by
  simp [State.applySwap]

/-- A pending swap is no longer pending (R98, R100). -/
@[simp] theorem State.applyPendingSwap_frame (s : State) :
    (s.applyPendingSwap).engine = s.engine ∧ (s.applyPendingSwap).resetAsserted = s.resetAsserted ∧
      (s.applyPendingSwap).line = s.line ∧ (s.applyPendingSwap).cycle = s.cycle ∧
      (s.applyPendingSwap).settings = s.settings ∧ (s.applyPendingSwap).context = s.context ∧
      (s.applyPendingSwap).lateWatch = s.lateWatch ∧ (s.applyPendingSwap).lateFrame = s.lateFrame ∧
      (s.applyPendingSwap).stations = s.stations ∧ (s.applyPendingSwap).stationSelect = s.stationSelect ∧
      (s.applyPendingSwap).exmem = s.exmem ∧ (s.applyPendingSwap).exmemAddr = s.exmemAddr ∧
      (s.applyPendingSwap).ringU = s.ringU ∧ (s.applyPendingSwap).ringN = s.ringN ∧
      (s.applyPendingSwap).requests = s.requests ∧ (s.applyPendingSwap).orderIndex = s.orderIndex ∧
      (s.applyPendingSwap).pending = s.pending ∧ (s.applyPendingSwap).schedule.page0 = s.schedule.page0 ∧
      (s.applyPendingSwap).schedule.page1 = s.schedule.page1 ∧
      (s.applyPendingSwap).schedule.hold = s.schedule.hold ∧
      (s.applyPendingSwap).schedule.select = s.schedule.select ∧
      (s.applyPendingSwap).schedule.view = s.schedule.view ∧
      (s.applyPendingSwap).host.intEnable = s.host.intEnable ∧
      (s.applyPendingSwap).host.windowStatus = s.host.windowStatus ∧
      (s.applyPendingSwap).host.commandStatus = s.host.commandStatus ∧
      (s.applyPendingSwap).host.readData = s.host.readData ∧ s.applyPendingSwap.schedule.swapPending = false := by
  unfold State.applyPendingSwap; split <;> simp_all

/-- A selection point changes whether a selection is owed and nothing else (R33). -/
@[simp] theorem State.selectionPoint_frame (s : State) :
    (s.selectionPoint).engine = s.engine ∧ (s.selectionPoint).resetAsserted = s.resetAsserted ∧
      (s.selectionPoint).line = s.line ∧ (s.selectionPoint).settings = s.settings ∧
      (s.selectionPoint).context = s.context ∧ (s.selectionPoint).lateWatch = s.lateWatch ∧
      (s.selectionPoint).lateFrame = s.lateFrame ∧ (s.selectionPoint).stations = s.stations ∧
      (s.selectionPoint).stationSelect = s.stationSelect ∧ (s.selectionPoint).schedule = s.schedule ∧
      (s.selectionPoint).exmem = s.exmem ∧ (s.selectionPoint).exmemAddr = s.exmemAddr ∧
      (s.selectionPoint).ringU = s.ringU ∧ (s.selectionPoint).ringN = s.ringN ∧
      (s.selectionPoint).requests = s.requests ∧ (s.selectionPoint).orderIndex = s.orderIndex ∧
      (s.selectionPoint).queue = s.queue ∧ (s.selectionPoint).host = s.host ∧
      (s.selectionPoint).pending = s.pending ∧ (s.selectionPoint).cycle.clock = s.cycle.clock ∧
      (s.selectionPoint).cycle.number = s.cycle.number ∧
      (s.selectionPoint).cycle.oldNumber = s.cycle.oldNumber ∧
      (s.selectionPoint).cycle.lateMarks = s.cycle.lateMarks ∧ (s.selectionPoint).cycle.phase = s.cycle.phase ∧
      (s.selectionPoint).cycle.want = s.cycle.want ∧ (s.selectionPoint).cycle.walk = s.cycle.walk ∧
      (s.selectionPoint).cycle.rollPointer = s.cycle.rollPointer ∧
      (s.selectionPoint).cycle.rollDone = s.cycle.rollDone := by
  unfold State.selectionPoint; repeat' split
  all_goals simp

/-- Moving the walk on changes the walk, the phase and the owed selection (R31, R33). -/
@[simp] theorem State.walkFrom_frame (s : State) (n : Nat) :
    (s.walkFrom n).engine = s.engine ∧ (s.walkFrom n).resetAsserted = s.resetAsserted ∧
      (s.walkFrom n).line = s.line ∧ (s.walkFrom n).settings = s.settings ∧
      (s.walkFrom n).context = s.context ∧ (s.walkFrom n).lateWatch = s.lateWatch ∧
      (s.walkFrom n).lateFrame = s.lateFrame ∧ (s.walkFrom n).stations = s.stations ∧
      (s.walkFrom n).stationSelect = s.stationSelect ∧ (s.walkFrom n).schedule = s.schedule ∧
      (s.walkFrom n).exmem = s.exmem ∧ (s.walkFrom n).exmemAddr = s.exmemAddr ∧
      (s.walkFrom n).ringU = s.ringU ∧ (s.walkFrom n).ringN = s.ringN ∧ (s.walkFrom n).requests = s.requests ∧
      (s.walkFrom n).orderIndex = s.orderIndex ∧ (s.walkFrom n).queue = s.queue ∧
      (s.walkFrom n).host = s.host ∧ (s.walkFrom n).pending = s.pending ∧
      (s.walkFrom n).cycle.clock = s.cycle.clock ∧ (s.walkFrom n).cycle.number = s.cycle.number ∧
      (s.walkFrom n).cycle.oldNumber = s.cycle.oldNumber ∧ (s.walkFrom n).cycle.lateMarks = s.cycle.lateMarks ∧
      (s.walkFrom n).cycle.want = s.cycle.want ∧ (s.walkFrom n).cycle.rollPointer = s.cycle.rollPointer ∧
      (s.walkFrom n).cycle.rollDone = s.cycle.rollDone := by
  unfold State.walkFrom; repeat' split
  all_goals simp

/-- Dropping the cycle's work ends the want and the owed selection (R27, R33). -/
@[simp] theorem State.dropCycleWork_frame (s : State) :
    (s.dropCycleWork).engine = s.engine ∧ (s.dropCycleWork).resetAsserted = s.resetAsserted ∧
      (s.dropCycleWork).line = s.line ∧ (s.dropCycleWork).settings = s.settings ∧
      (s.dropCycleWork).context = s.context ∧ (s.dropCycleWork).lateWatch = s.lateWatch ∧
      (s.dropCycleWork).lateFrame = s.lateFrame ∧ (s.dropCycleWork).stations = s.stations ∧
      (s.dropCycleWork).stationSelect = s.stationSelect ∧ (s.dropCycleWork).schedule = s.schedule ∧
      (s.dropCycleWork).exmem = s.exmem ∧ (s.dropCycleWork).exmemAddr = s.exmemAddr ∧
      (s.dropCycleWork).ringU = s.ringU ∧ (s.dropCycleWork).ringN = s.ringN ∧
      (s.dropCycleWork).requests = s.requests ∧ (s.dropCycleWork).orderIndex = s.orderIndex ∧
      (s.dropCycleWork).queue = s.queue ∧ (s.dropCycleWork).host = s.host ∧
      (s.dropCycleWork).pending = s.pending ∧ (s.dropCycleWork).cycle.clock = s.cycle.clock ∧
      (s.dropCycleWork).cycle.number = s.cycle.number ∧ (s.dropCycleWork).cycle.oldNumber = s.cycle.oldNumber ∧
      (s.dropCycleWork).cycle.lateMarks = s.cycle.lateMarks ∧ (s.dropCycleWork).cycle.phase = s.cycle.phase ∧
      (s.dropCycleWork).cycle.walk = s.cycle.walk ∧ (s.dropCycleWork).cycle.rollPointer = s.cycle.rollPointer ∧
      (s.dropCycleWork).cycle.rollDone = s.cycle.rollDone ∧ s.dropCycleWork.cycle.want = none ∧
      s.dropCycleWork.cycle.owed = false := by
  simp [State.dropCycleWork]

/-- What the entry to HALTED leaves (R188). -/
@[simp] theorem State.enterHalted_frame (s : State) :
    (s.enterHalted).resetAsserted = s.resetAsserted ∧ (s.enterHalted).settings = s.settings ∧
      (s.enterHalted).context = s.context ∧ (s.enterHalted).stations = s.stations ∧
      (s.enterHalted).stationSelect = s.stationSelect ∧ (s.enterHalted).exmem = s.exmem ∧
      (s.enterHalted).exmemAddr = s.exmemAddr ∧ (s.enterHalted).ringU = s.ringU ∧
      (s.enterHalted).ringN = s.ringN ∧ (s.enterHalted).requests = s.requests ∧
      (s.enterHalted).orderIndex = s.orderIndex ∧ (s.enterHalted).pending = s.pending ∧
      s.enterHalted.engine = .halted ∧ s.enterHalted.lateWatch = none ∧ s.enterHalted.lateFrame = none ∧
      s.enterHalted.cycle = s.dropCycleWork.cycle ∧ s.enterHalted.schedule.swapPending = false ∧
      s.enterHalted.line = { s.line with rx := { s.line.rx with state := .idle } } ∧
      (s.enterHalted).schedule.page0 = s.schedule.page0 ∧ (s.enterHalted).schedule.page1 = s.schedule.page1 ∧
      (s.enterHalted).schedule.hold = s.schedule.hold ∧ (s.enterHalted).schedule.select = s.schedule.select ∧
      (s.enterHalted).schedule.view = s.schedule.view ∧ (s.enterHalted).host.intEnable = s.host.intEnable ∧
      (s.enterHalted).host.windowStatus = s.host.windowStatus ∧
      (s.enterHalted).host.commandStatus = s.host.commandStatus ∧
      (s.enterHalted).host.readData = s.host.readData := by
  simp [State.enterHalted, State.dropCycleWork]

/-- A cut by the engine touches the line and, for a mark, the cycle number (R12, R26). -/
@[simp] theorem State.cutByEngine_frame (s : State) :
    (s.cutByEngine).engine = s.engine ∧ (s.cutByEngine).resetAsserted = s.resetAsserted ∧
      (s.cutByEngine).settings = s.settings ∧ (s.cutByEngine).context = s.context ∧
      (s.cutByEngine).lateWatch = s.lateWatch ∧ (s.cutByEngine).lateFrame = s.lateFrame ∧
      (s.cutByEngine).stations = s.stations ∧ (s.cutByEngine).stationSelect = s.stationSelect ∧
      (s.cutByEngine).schedule = s.schedule ∧ (s.cutByEngine).exmem = s.exmem ∧
      (s.cutByEngine).exmemAddr = s.exmemAddr ∧ (s.cutByEngine).ringU = s.ringU ∧
      (s.cutByEngine).ringN = s.ringN ∧ (s.cutByEngine).requests = s.requests ∧
      (s.cutByEngine).orderIndex = s.orderIndex ∧ (s.cutByEngine).queue = s.queue ∧
      (s.cutByEngine).host = s.host ∧ (s.cutByEngine).pending = s.pending ∧ s.cutByEngine.line.tx = none ∧
      (s.cutByEngine).line.streak = s.line.streak ∧ (s.cutByEngine).line.freeIndex = s.line.freeIndex ∧
      (s.cutByEngine).cycle.clock = s.cycle.clock ∧ (s.cutByEngine).cycle.lateMarks = s.cycle.lateMarks ∧
      (s.cutByEngine).cycle.phase = s.cycle.phase ∧ (s.cutByEngine).cycle.want = s.cycle.want ∧
      (s.cutByEngine).cycle.walk = s.cycle.walk ∧ (s.cutByEngine).cycle.owed = s.cycle.owed ∧
      (s.cutByEngine).cycle.rollPointer = s.cycle.rollPointer ∧
      (s.cutByEngine).cycle.rollDone = s.cycle.rollDone := by
  unfold State.cutByEngine; dsimp only; repeat' split
  all_goals simp_all

/-- Time passing changes counts of bit times alone (R1, R3, R21, R27, R42). -/
@[simp] theorem State.elapse_frame (s : State) (k : Nat) :
    (s.elapse k).engine = s.engine ∧ (s.elapse k).resetAsserted = s.resetAsserted ∧
      (s.elapse k).settings = s.settings ∧ (s.elapse k).lateWatch = s.lateWatch ∧
      (s.elapse k).lateFrame = s.lateFrame ∧ (s.elapse k).stations = s.stations ∧
      (s.elapse k).stationSelect = s.stationSelect ∧ (s.elapse k).schedule = s.schedule ∧
      (s.elapse k).exmem = s.exmem ∧ (s.elapse k).exmemAddr = s.exmemAddr ∧ (s.elapse k).ringU = s.ringU ∧
      (s.elapse k).ringN = s.ringN ∧ (s.elapse k).requests = s.requests ∧
      (s.elapse k).orderIndex = s.orderIndex ∧ (s.elapse k).queue = s.queue ∧ (s.elapse k).host = s.host ∧
      (s.elapse k).pending = s.pending ∧ (s.elapse k).cycle.number = s.cycle.number ∧
      (s.elapse k).cycle.oldNumber = s.cycle.oldNumber ∧ (s.elapse k).cycle.lateMarks = s.cycle.lateMarks ∧
      (s.elapse k).cycle.phase = s.cycle.phase ∧ (s.elapse k).cycle.walk = s.cycle.walk ∧
      (s.elapse k).cycle.owed = s.cycle.owed ∧ (s.elapse k).cycle.rollPointer = s.cycle.rollPointer ∧
      (s.elapse k).cycle.rollDone = s.cycle.rollDone ∧ (s.elapse k).line.rx = s.line.rx ∧
      (s.elapse k).line.streak = s.line.streak ∧ (s.elapse k).line.tx.isSome = s.line.tx.isSome ∧
      (s.elapse k).cycle.want.isNone = s.cycle.want.isNone ∧ (s.elapse k).context.isSome = s.context.isSome := by
  unfold State.elapse CycleUnit.elapse LineUnit.elapse; dsimp only; repeat' split
  all_goals simp_all

end Sys2Proof.Machine
end

