-- ==== Sys2Proof/Laws/Rings.lean ====
section
/-! SUPPORT. What each operation of the Memory Master and the Ring Unit leaves unchanged, field by field. -/

namespace Sys2Proof.Machine

/-- Replacing a ring changes that ring and nothing else. -/
@[simp] theorem State.setRing_frame (s : State) (r : Ring) (x : RingUnit) :
    (s.setRing r x).engine = s.engine ∧ (s.setRing r x).resetAsserted = s.resetAsserted ∧
      (s.setRing r x).line = s.line ∧ (s.setRing r x).cycle = s.cycle ∧ (s.setRing r x).settings = s.settings ∧
      (s.setRing r x).context = s.context ∧ (s.setRing r x).lateWatch = s.lateWatch ∧
      (s.setRing r x).lateFrame = s.lateFrame ∧ (s.setRing r x).stations = s.stations ∧
      (s.setRing r x).stationSelect = s.stationSelect ∧ (s.setRing r x).schedule = s.schedule ∧
      (s.setRing r x).exmem = s.exmem ∧ (s.setRing r x).exmemAddr = s.exmemAddr ∧
      (s.setRing r x).requests = s.requests ∧ (s.setRing r x).orderIndex = s.orderIndex ∧
      (s.setRing r x).queue = s.queue ∧ (s.setRing r x).host = s.host ∧ (s.setRing r x).pending = s.pending ∧
      (s.setRing r x).ringUnit r = x := by
  cases r <;> simp [State.setRing, State.ringUnit]

/-- Beginning the oldest request changes the request queue alone (R138). -/
@[simp] theorem State.serve_frame (s : State) :
    (s.serve).engine = s.engine ∧ (s.serve).resetAsserted = s.resetAsserted ∧ (s.serve).line = s.line ∧
      (s.serve).cycle = s.cycle ∧ (s.serve).settings = s.settings ∧ (s.serve).context = s.context ∧
      (s.serve).lateWatch = s.lateWatch ∧ (s.serve).lateFrame = s.lateFrame ∧ (s.serve).stations = s.stations ∧
      (s.serve).stationSelect = s.stationSelect ∧ (s.serve).schedule = s.schedule ∧ (s.serve).exmem = s.exmem ∧
      (s.serve).exmemAddr = s.exmemAddr ∧ (s.serve).ringU = s.ringU ∧ (s.serve).ringN = s.ringN ∧
      (s.serve).orderIndex = s.orderIndex ∧ (s.serve).queue = s.queue ∧ (s.serve).host = s.host ∧
      (s.serve).pending = s.pending := by
  unfold State.serve; repeat' split
  all_goals simp

/-- Issuing a request changes the request queue alone (R136). -/
@[simp] theorem State.issue_frame (s : State) (q : Request) :
    (s.issue q).engine = s.engine ∧ (s.issue q).resetAsserted = s.resetAsserted ∧ (s.issue q).line = s.line ∧
      (s.issue q).cycle = s.cycle ∧ (s.issue q).settings = s.settings ∧ (s.issue q).context = s.context ∧
      (s.issue q).lateWatch = s.lateWatch ∧ (s.issue q).lateFrame = s.lateFrame ∧
      (s.issue q).stations = s.stations ∧ (s.issue q).stationSelect = s.stationSelect ∧
      (s.issue q).schedule = s.schedule ∧ (s.issue q).exmem = s.exmem ∧ (s.issue q).exmemAddr = s.exmemAddr ∧
      (s.issue q).ringU = s.ringU ∧ (s.issue q).ringN = s.ringN ∧ (s.issue q).orderIndex = s.orderIndex ∧
      (s.issue q).queue = s.queue ∧ (s.issue q).host = s.host ∧ (s.issue q).pending = s.pending := by
  simp [State.issue]

/-- Fetching changes the rings and the request queue alone (R118). -/
@[simp] theorem State.tryFetch_frame (s : State) (r : Ring) :
    (s.tryFetch r).engine = s.engine ∧ (s.tryFetch r).resetAsserted = s.resetAsserted ∧
      (s.tryFetch r).line = s.line ∧ (s.tryFetch r).cycle = s.cycle ∧ (s.tryFetch r).settings = s.settings ∧
      (s.tryFetch r).context = s.context ∧ (s.tryFetch r).lateWatch = s.lateWatch ∧
      (s.tryFetch r).lateFrame = s.lateFrame ∧ (s.tryFetch r).stations = s.stations ∧
      (s.tryFetch r).stationSelect = s.stationSelect ∧ (s.tryFetch r).schedule = s.schedule ∧
      (s.tryFetch r).exmem = s.exmem ∧ (s.tryFetch r).exmemAddr = s.exmemAddr ∧
      (s.tryFetch r).orderIndex = s.orderIndex ∧ (s.tryFetch r).queue = s.queue ∧
      (s.tryFetch r).host = s.host ∧ (s.tryFetch r).pending = s.pending := by
  unfold State.tryFetch; repeat' split
  all_goals simp

/-- Issuing a reply's DATA_WRITE changes the request queue alone (R126). -/
@[simp] theorem State.issueReply_frame (s : State) (r : Ring) (x : RingRecord) (p : Option Reply) :
    (s.issueReply r x p).engine = s.engine ∧ (s.issueReply r x p).resetAsserted = s.resetAsserted ∧
      (s.issueReply r x p).line = s.line ∧ (s.issueReply r x p).cycle = s.cycle ∧
      (s.issueReply r x p).settings = s.settings ∧ (s.issueReply r x p).context = s.context ∧
      (s.issueReply r x p).lateWatch = s.lateWatch ∧ (s.issueReply r x p).lateFrame = s.lateFrame ∧
      (s.issueReply r x p).stations = s.stations ∧ (s.issueReply r x p).stationSelect = s.stationSelect ∧
      (s.issueReply r x p).schedule = s.schedule ∧ (s.issueReply r x p).exmem = s.exmem ∧
      (s.issueReply r x p).exmemAddr = s.exmemAddr ∧ (s.issueReply r x p).ringU = s.ringU ∧
      (s.issueReply r x p).ringN = s.ringN ∧ (s.issueReply r x p).orderIndex = s.orderIndex ∧
      (s.issueReply r x p).queue = s.queue ∧ (s.issueReply r x p).host = s.host ∧
      (s.issueReply r x p).pending = s.pending := by
  unfold State.issueReply; repeat' split
  all_goals simp

/-- Completing a record changes its ring and the request queue alone (R125, R126). -/
@[simp] theorem State.completeRecord_frame (s : State) (r : Ring) (x : RingRecord) (k : Result) (p : Option Reply) :
    (s.completeRecord r x k p).engine = s.engine ∧ (s.completeRecord r x k p).resetAsserted = s.resetAsserted ∧
      (s.completeRecord r x k p).line = s.line ∧ (s.completeRecord r x k p).cycle = s.cycle ∧
      (s.completeRecord r x k p).settings = s.settings ∧ (s.completeRecord r x k p).context = s.context ∧
      (s.completeRecord r x k p).lateWatch = s.lateWatch ∧ (s.completeRecord r x k p).lateFrame = s.lateFrame ∧
      (s.completeRecord r x k p).stations = s.stations ∧
      (s.completeRecord r x k p).stationSelect = s.stationSelect ∧
      (s.completeRecord r x k p).schedule = s.schedule ∧ (s.completeRecord r x k p).exmem = s.exmem ∧
      (s.completeRecord r x k p).exmemAddr = s.exmemAddr ∧
      (s.completeRecord r x k p).orderIndex = s.orderIndex ∧ (s.completeRecord r x k p).queue = s.queue ∧
      (s.completeRecord r x k p).host = s.host ∧ (s.completeRecord r x k p).pending = s.pending := by
  simp [State.completeRecord]

/-- Staging changes the ring, the request queue and the owed selection (R122, R33). -/
@[simp] theorem State.stageRecord_frame (s : State) (r : Ring) (x : RingRecord) :
    (s.stageRecord r x).engine = s.engine ∧ (s.stageRecord r x).resetAsserted = s.resetAsserted ∧
      (s.stageRecord r x).line = s.line ∧ (s.stageRecord r x).settings = s.settings ∧
      (s.stageRecord r x).context = s.context ∧ (s.stageRecord r x).lateWatch = s.lateWatch ∧
      (s.stageRecord r x).lateFrame = s.lateFrame ∧ (s.stageRecord r x).stations = s.stations ∧
      (s.stageRecord r x).stationSelect = s.stationSelect ∧ (s.stageRecord r x).schedule = s.schedule ∧
      (s.stageRecord r x).exmem = s.exmem ∧ (s.stageRecord r x).exmemAddr = s.exmemAddr ∧
      (s.stageRecord r x).orderIndex = s.orderIndex ∧ (s.stageRecord r x).queue = s.queue ∧
      (s.stageRecord r x).host = s.host ∧ (s.stageRecord r x).pending = s.pending ∧
      (s.stageRecord r x).cycle.clock = s.cycle.clock ∧ (s.stageRecord r x).cycle.number = s.cycle.number ∧
      (s.stageRecord r x).cycle.oldNumber = s.cycle.oldNumber ∧
      (s.stageRecord r x).cycle.lateMarks = s.cycle.lateMarks ∧
      (s.stageRecord r x).cycle.phase = s.cycle.phase ∧ (s.stageRecord r x).cycle.want = s.cycle.want ∧
      (s.stageRecord r x).cycle.walk = s.cycle.walk ∧
      (s.stageRecord r x).cycle.rollPointer = s.cycle.rollPointer ∧
      (s.stageRecord r x).cycle.rollDone = s.cycle.rollDone := by
  unfold State.stageRecord; dsimp only; repeat' split
  all_goals simp

/-- A ring halt changes the ring and what a post changes (R130). -/
@[simp] theorem State.haltRing_frame (s : State) (r : Ring) (k : HaltReason) (i : Byte) (f : Option RingRecord) :
    (s.haltRing r k i f).engine = s.engine ∧ (s.haltRing r k i f).resetAsserted = s.resetAsserted ∧
      (s.haltRing r k i f).line = s.line ∧ (s.haltRing r k i f).cycle = s.cycle ∧
      (s.haltRing r k i f).settings = s.settings ∧ (s.haltRing r k i f).context = s.context ∧
      (s.haltRing r k i f).lateWatch = s.lateWatch ∧ (s.haltRing r k i f).lateFrame = s.lateFrame ∧
      (s.haltRing r k i f).stations = s.stations ∧ (s.haltRing r k i f).stationSelect = s.stationSelect ∧
      (s.haltRing r k i f).schedule = s.schedule ∧ (s.haltRing r k i f).exmem = s.exmem ∧
      (s.haltRing r k i f).exmemAddr = s.exmemAddr ∧ (s.haltRing r k i f).requests = s.requests ∧
      (s.haltRing r k i f).orderIndex = s.orderIndex ∧ (s.haltRing r k i f).pending = s.pending ∧
      (s.haltRing r k i f).host.intEnable = s.host.intEnable ∧
      (s.haltRing r k i f).host.windowStatus = s.host.windowStatus ∧
      (s.haltRing r k i f).host.commandStatus = s.host.commandStatus ∧
      (s.haltRing r k i f).host.readData = s.host.readData := by
  simp [State.haltRing]

/-- Taking a record changes what staging and completing change (R119). -/
@[simp] theorem State.takeRecord_frame (s : State) (r : Ring) (a b c d : Word) :
    (s.takeRecord r a b c d).engine = s.engine ∧ (s.takeRecord r a b c d).resetAsserted = s.resetAsserted ∧
      (s.takeRecord r a b c d).line = s.line ∧ (s.takeRecord r a b c d).settings = s.settings ∧
      (s.takeRecord r a b c d).context = s.context ∧ (s.takeRecord r a b c d).lateWatch = s.lateWatch ∧
      (s.takeRecord r a b c d).lateFrame = s.lateFrame ∧ (s.takeRecord r a b c d).stations = s.stations ∧
      (s.takeRecord r a b c d).stationSelect = s.stationSelect ∧
      (s.takeRecord r a b c d).schedule = s.schedule ∧ (s.takeRecord r a b c d).exmem = s.exmem ∧
      (s.takeRecord r a b c d).exmemAddr = s.exmemAddr ∧ (s.takeRecord r a b c d).orderIndex = s.orderIndex ∧
      (s.takeRecord r a b c d).queue = s.queue ∧ (s.takeRecord r a b c d).host = s.host ∧
      (s.takeRecord r a b c d).pending = s.pending ∧ (s.takeRecord r a b c d).cycle.clock = s.cycle.clock ∧
      (s.takeRecord r a b c d).cycle.number = s.cycle.number ∧
      (s.takeRecord r a b c d).cycle.oldNumber = s.cycle.oldNumber ∧
      (s.takeRecord r a b c d).cycle.lateMarks = s.cycle.lateMarks ∧
      (s.takeRecord r a b c d).cycle.phase = s.cycle.phase ∧
      (s.takeRecord r a b c d).cycle.want = s.cycle.want ∧ (s.takeRecord r a b c d).cycle.walk = s.cycle.walk ∧
      (s.takeRecord r a b c d).cycle.rollPointer = s.cycle.rollPointer ∧
      (s.takeRecord r a b c d).cycle.rollDone = s.cycle.rollDone := by
  unfold State.takeRecord; dsimp only; repeat' split
  all_goals simp

/-- What the outcome of a request changes (R119). -/
@[simp] theorem State.recordReadDone_frame (s : State) (q : Request) (ok : Bool) :
    (s.recordReadDone q ok).engine = s.engine ∧ (s.recordReadDone q ok).resetAsserted = s.resetAsserted ∧
      (s.recordReadDone q ok).line = s.line ∧ (s.recordReadDone q ok).settings = s.settings ∧
      (s.recordReadDone q ok).context = s.context ∧ (s.recordReadDone q ok).lateWatch = s.lateWatch ∧
      (s.recordReadDone q ok).lateFrame = s.lateFrame ∧ (s.recordReadDone q ok).stations = s.stations ∧
      (s.recordReadDone q ok).stationSelect = s.stationSelect ∧ (s.recordReadDone q ok).schedule = s.schedule ∧
      (s.recordReadDone q ok).exmem = s.exmem ∧ (s.recordReadDone q ok).exmemAddr = s.exmemAddr ∧
      (s.recordReadDone q ok).orderIndex = s.orderIndex ∧ (s.recordReadDone q ok).pending = s.pending ∧
      (s.recordReadDone q ok).cycle.clock = s.cycle.clock ∧
      (s.recordReadDone q ok).cycle.number = s.cycle.number ∧
      (s.recordReadDone q ok).cycle.oldNumber = s.cycle.oldNumber ∧
      (s.recordReadDone q ok).cycle.lateMarks = s.cycle.lateMarks ∧
      (s.recordReadDone q ok).cycle.phase = s.cycle.phase ∧ (s.recordReadDone q ok).cycle.want = s.cycle.want ∧
      (s.recordReadDone q ok).cycle.walk = s.cycle.walk ∧
      (s.recordReadDone q ok).cycle.rollPointer = s.cycle.rollPointer ∧
      (s.recordReadDone q ok).cycle.rollDone = s.cycle.rollDone ∧
      (s.recordReadDone q ok).host.intEnable = s.host.intEnable ∧
      (s.recordReadDone q ok).host.windowStatus = s.host.windowStatus ∧
      (s.recordReadDone q ok).host.commandStatus = s.host.commandStatus ∧
      (s.recordReadDone q ok).host.readData = s.host.readData := by
  unfold State.recordReadDone; repeat' split
  all_goals simp

/-- What the outcome of a request changes (R121). -/
@[simp] theorem State.dataReadDone_frame (s : State) (q : Request) (ok : Bool) :
    (s.dataReadDone q ok).engine = s.engine ∧ (s.dataReadDone q ok).resetAsserted = s.resetAsserted ∧
      (s.dataReadDone q ok).line = s.line ∧ (s.dataReadDone q ok).settings = s.settings ∧
      (s.dataReadDone q ok).context = s.context ∧ (s.dataReadDone q ok).lateWatch = s.lateWatch ∧
      (s.dataReadDone q ok).lateFrame = s.lateFrame ∧ (s.dataReadDone q ok).stations = s.stations ∧
      (s.dataReadDone q ok).stationSelect = s.stationSelect ∧ (s.dataReadDone q ok).schedule = s.schedule ∧
      (s.dataReadDone q ok).exmem = s.exmem ∧ (s.dataReadDone q ok).exmemAddr = s.exmemAddr ∧
      (s.dataReadDone q ok).orderIndex = s.orderIndex ∧ (s.dataReadDone q ok).pending = s.pending ∧
      (s.dataReadDone q ok).cycle.clock = s.cycle.clock ∧ (s.dataReadDone q ok).cycle.number = s.cycle.number ∧
      (s.dataReadDone q ok).cycle.oldNumber = s.cycle.oldNumber ∧
      (s.dataReadDone q ok).cycle.lateMarks = s.cycle.lateMarks ∧
      (s.dataReadDone q ok).cycle.phase = s.cycle.phase ∧ (s.dataReadDone q ok).cycle.want = s.cycle.want ∧
      (s.dataReadDone q ok).cycle.walk = s.cycle.walk ∧
      (s.dataReadDone q ok).cycle.rollPointer = s.cycle.rollPointer ∧
      (s.dataReadDone q ok).cycle.rollDone = s.cycle.rollDone ∧
      (s.dataReadDone q ok).host.intEnable = s.host.intEnable ∧
      (s.dataReadDone q ok).host.windowStatus = s.host.windowStatus ∧
      (s.dataReadDone q ok).host.commandStatus = s.host.commandStatus ∧
      (s.dataReadDone q ok).host.readData = s.host.readData := by
  unfold State.dataReadDone; repeat' split
  all_goals simp

/-- What the outcome of a request changes (R127). -/
@[simp] theorem State.dataWriteDone_frame (s : State) (q : Request) (ok : Bool) :
    (s.dataWriteDone q ok).engine = s.engine ∧ (s.dataWriteDone q ok).resetAsserted = s.resetAsserted ∧
      (s.dataWriteDone q ok).line = s.line ∧ (s.dataWriteDone q ok).settings = s.settings ∧
      (s.dataWriteDone q ok).context = s.context ∧ (s.dataWriteDone q ok).lateWatch = s.lateWatch ∧
      (s.dataWriteDone q ok).lateFrame = s.lateFrame ∧ (s.dataWriteDone q ok).stations = s.stations ∧
      (s.dataWriteDone q ok).stationSelect = s.stationSelect ∧ (s.dataWriteDone q ok).schedule = s.schedule ∧
      (s.dataWriteDone q ok).exmem = s.exmem ∧ (s.dataWriteDone q ok).exmemAddr = s.exmemAddr ∧
      (s.dataWriteDone q ok).orderIndex = s.orderIndex ∧ (s.dataWriteDone q ok).pending = s.pending ∧
      (s.dataWriteDone q ok).cycle.clock = s.cycle.clock ∧
      (s.dataWriteDone q ok).cycle.number = s.cycle.number ∧
      (s.dataWriteDone q ok).cycle.oldNumber = s.cycle.oldNumber ∧
      (s.dataWriteDone q ok).cycle.lateMarks = s.cycle.lateMarks ∧
      (s.dataWriteDone q ok).cycle.phase = s.cycle.phase ∧ (s.dataWriteDone q ok).cycle.want = s.cycle.want ∧
      (s.dataWriteDone q ok).cycle.walk = s.cycle.walk ∧
      (s.dataWriteDone q ok).cycle.rollPointer = s.cycle.rollPointer ∧
      (s.dataWriteDone q ok).cycle.rollDone = s.cycle.rollDone ∧
      (s.dataWriteDone q ok).host.intEnable = s.host.intEnable ∧
      (s.dataWriteDone q ok).host.windowStatus = s.host.windowStatus ∧
      (s.dataWriteDone q ok).host.commandStatus = s.host.commandStatus ∧
      (s.dataWriteDone q ok).host.readData = s.host.readData := by
  unfold State.dataWriteDone; dsimp only; repeat' split
  all_goals simp

/-- What the outcome of a request changes (R128). -/
@[simp] theorem State.statusWriteDone_frame (s : State) (q : Request) (ok : Bool) :
    (s.statusWriteDone q ok).engine = s.engine ∧ (s.statusWriteDone q ok).resetAsserted = s.resetAsserted ∧
      (s.statusWriteDone q ok).line = s.line ∧ (s.statusWriteDone q ok).settings = s.settings ∧
      (s.statusWriteDone q ok).context = s.context ∧ (s.statusWriteDone q ok).lateWatch = s.lateWatch ∧
      (s.statusWriteDone q ok).lateFrame = s.lateFrame ∧ (s.statusWriteDone q ok).stations = s.stations ∧
      (s.statusWriteDone q ok).stationSelect = s.stationSelect ∧
      (s.statusWriteDone q ok).schedule = s.schedule ∧ (s.statusWriteDone q ok).exmem = s.exmem ∧
      (s.statusWriteDone q ok).exmemAddr = s.exmemAddr ∧ (s.statusWriteDone q ok).orderIndex = s.orderIndex ∧
      (s.statusWriteDone q ok).pending = s.pending ∧ (s.statusWriteDone q ok).cycle.clock = s.cycle.clock ∧
      (s.statusWriteDone q ok).cycle.number = s.cycle.number ∧
      (s.statusWriteDone q ok).cycle.oldNumber = s.cycle.oldNumber ∧
      (s.statusWriteDone q ok).cycle.lateMarks = s.cycle.lateMarks ∧
      (s.statusWriteDone q ok).cycle.phase = s.cycle.phase ∧
      (s.statusWriteDone q ok).cycle.want = s.cycle.want ∧ (s.statusWriteDone q ok).cycle.walk = s.cycle.walk ∧
      (s.statusWriteDone q ok).cycle.rollPointer = s.cycle.rollPointer ∧
      (s.statusWriteDone q ok).cycle.rollDone = s.cycle.rollDone ∧
      (s.statusWriteDone q ok).host.intEnable = s.host.intEnable ∧
      (s.statusWriteDone q ok).host.windowStatus = s.host.windowStatus ∧
      (s.statusWriteDone q ok).host.commandStatus = s.host.commandStatus ∧
      (s.statusWriteDone q ok).host.readData = s.host.readData := by
  unfold State.statusWriteDone; dsimp only; repeat' split
  all_goals simp

/-- The fetches after a request change the rings, the request queue and the index of open orders (R118, R145). -/
@[simp] theorem State.fetchAfter_frame (s : State) (q : Request) :
    (s.fetchAfter q).engine = s.engine ∧ (s.fetchAfter q).resetAsserted = s.resetAsserted ∧
      (s.fetchAfter q).line = s.line ∧ (s.fetchAfter q).cycle = s.cycle ∧
      (s.fetchAfter q).settings = s.settings ∧ (s.fetchAfter q).context = s.context ∧
      (s.fetchAfter q).lateWatch = s.lateWatch ∧ (s.fetchAfter q).lateFrame = s.lateFrame ∧
      (s.fetchAfter q).stations = s.stations ∧ (s.fetchAfter q).stationSelect = s.stationSelect ∧
      (s.fetchAfter q).schedule = s.schedule ∧ (s.fetchAfter q).exmem = s.exmem ∧
      (s.fetchAfter q).exmemAddr = s.exmemAddr ∧ (s.fetchAfter q).queue = s.queue ∧
      (s.fetchAfter q).host = s.host ∧ (s.fetchAfter q).pending = s.pending := by
  unfold State.fetchAfter; repeat' split
  all_goals simp

/-- What the outcome of a request changes (R119, R121, R127, R128). -/
@[simp] theorem State.takeOutcome_frame (s : State) (q : Request) (ok : Bool) :
    (s.takeOutcome q ok).engine = s.engine ∧ (s.takeOutcome q ok).resetAsserted = s.resetAsserted ∧
      (s.takeOutcome q ok).line = s.line ∧ (s.takeOutcome q ok).settings = s.settings ∧
      (s.takeOutcome q ok).context = s.context ∧ (s.takeOutcome q ok).lateWatch = s.lateWatch ∧
      (s.takeOutcome q ok).lateFrame = s.lateFrame ∧ (s.takeOutcome q ok).stations = s.stations ∧
      (s.takeOutcome q ok).stationSelect = s.stationSelect ∧ (s.takeOutcome q ok).schedule = s.schedule ∧
      (s.takeOutcome q ok).exmem = s.exmem ∧ (s.takeOutcome q ok).exmemAddr = s.exmemAddr ∧
      (s.takeOutcome q ok).orderIndex = s.orderIndex ∧ (s.takeOutcome q ok).pending = s.pending ∧
      (s.takeOutcome q ok).cycle.clock = s.cycle.clock ∧ (s.takeOutcome q ok).cycle.number = s.cycle.number ∧
      (s.takeOutcome q ok).cycle.oldNumber = s.cycle.oldNumber ∧
      (s.takeOutcome q ok).cycle.lateMarks = s.cycle.lateMarks ∧
      (s.takeOutcome q ok).cycle.phase = s.cycle.phase ∧ (s.takeOutcome q ok).cycle.want = s.cycle.want ∧
      (s.takeOutcome q ok).cycle.walk = s.cycle.walk ∧
      (s.takeOutcome q ok).cycle.rollPointer = s.cycle.rollPointer ∧
      (s.takeOutcome q ok).cycle.rollDone = s.cycle.rollDone ∧
      (s.takeOutcome q ok).host.intEnable = s.host.intEnable ∧
      (s.takeOutcome q ok).host.windowStatus = s.host.windowStatus ∧
      (s.takeOutcome q ok).host.commandStatus = s.host.commandStatus ∧
      (s.takeOutcome q ok).host.readData = s.host.readData := by
  unfold State.takeOutcome; repeat' split
  all_goals simp

/-- What the end of a request changes (R138). -/
@[simp] theorem State.finishRequest_frame (s : State) (q : Request) (l : List Request) (ok : Bool) :
    (s.finishRequest q l ok).engine = s.engine ∧ (s.finishRequest q l ok).resetAsserted = s.resetAsserted ∧
      (s.finishRequest q l ok).line = s.line ∧ (s.finishRequest q l ok).settings = s.settings ∧
      (s.finishRequest q l ok).context = s.context ∧ (s.finishRequest q l ok).lateWatch = s.lateWatch ∧
      (s.finishRequest q l ok).lateFrame = s.lateFrame ∧ (s.finishRequest q l ok).stations = s.stations ∧
      (s.finishRequest q l ok).stationSelect = s.stationSelect ∧
      (s.finishRequest q l ok).schedule = s.schedule ∧ (s.finishRequest q l ok).exmem = s.exmem ∧
      (s.finishRequest q l ok).exmemAddr = s.exmemAddr ∧ (s.finishRequest q l ok).pending = s.pending ∧
      (s.finishRequest q l ok).cycle.clock = s.cycle.clock ∧
      (s.finishRequest q l ok).cycle.number = s.cycle.number ∧
      (s.finishRequest q l ok).cycle.oldNumber = s.cycle.oldNumber ∧
      (s.finishRequest q l ok).cycle.lateMarks = s.cycle.lateMarks ∧
      (s.finishRequest q l ok).cycle.phase = s.cycle.phase ∧
      (s.finishRequest q l ok).cycle.want = s.cycle.want ∧ (s.finishRequest q l ok).cycle.walk = s.cycle.walk ∧
      (s.finishRequest q l ok).cycle.rollPointer = s.cycle.rollPointer ∧
      (s.finishRequest q l ok).cycle.rollDone = s.cycle.rollDone ∧
      (s.finishRequest q l ok).host.intEnable = s.host.intEnable ∧
      (s.finishRequest q l ok).host.windowStatus = s.host.windowStatus ∧
      (s.finishRequest q l ok).host.commandStatus = s.host.commandStatus ∧
      (s.finishRequest q l ok).host.readData = s.host.readData := by
  unfold State.finishRequest; dsimp only; repeat' split
  all_goals simp

/-- What an answer on the memory port changes (R138). -/
@[simp] theorem State.transferAnswered_frame (s : State) (b : Bool) (w : Word) :
    (s.transferAnswered b w).engine = s.engine ∧ (s.transferAnswered b w).resetAsserted = s.resetAsserted ∧
      (s.transferAnswered b w).line = s.line ∧ (s.transferAnswered b w).settings = s.settings ∧
      (s.transferAnswered b w).context = s.context ∧ (s.transferAnswered b w).lateWatch = s.lateWatch ∧
      (s.transferAnswered b w).lateFrame = s.lateFrame ∧ (s.transferAnswered b w).stations = s.stations ∧
      (s.transferAnswered b w).stationSelect = s.stationSelect ∧
      (s.transferAnswered b w).schedule = s.schedule ∧ (s.transferAnswered b w).exmem = s.exmem ∧
      (s.transferAnswered b w).exmemAddr = s.exmemAddr ∧ (s.transferAnswered b w).pending = s.pending ∧
      (s.transferAnswered b w).cycle.clock = s.cycle.clock ∧
      (s.transferAnswered b w).cycle.number = s.cycle.number ∧
      (s.transferAnswered b w).cycle.oldNumber = s.cycle.oldNumber ∧
      (s.transferAnswered b w).cycle.lateMarks = s.cycle.lateMarks ∧
      (s.transferAnswered b w).cycle.phase = s.cycle.phase ∧
      (s.transferAnswered b w).cycle.want = s.cycle.want ∧ (s.transferAnswered b w).cycle.walk = s.cycle.walk ∧
      (s.transferAnswered b w).cycle.rollPointer = s.cycle.rollPointer ∧
      (s.transferAnswered b w).cycle.rollDone = s.cycle.rollDone ∧
      (s.transferAnswered b w).host.intEnable = s.host.intEnable ∧
      (s.transferAnswered b w).host.windowStatus = s.host.windowStatus ∧
      (s.transferAnswered b w).host.commandStatus = s.host.commandStatus ∧
      (s.transferAnswered b w).host.readData = s.host.readData := by
  unfold State.transferAnswered; dsimp only; repeat' split
  all_goals simp

end Sys2Proof.Machine
end

