-- ==== Sys2Proof/Laws/Exchanges.lean ====
section
/-! SUPPORT. What each operation of the Exchange Unit leaves unchanged, field by field. -/

namespace Sys2Proof.Machine

/-- What accepting a frame changes (R9). -/
@[simp] theorem State.transmit_frame (s : State) (u : TxUser) (f : List Byte) :
    (s.transmit u f).engine = s.engine ∧ (s.transmit u f).resetAsserted = s.resetAsserted ∧
      (s.transmit u f).cycle = s.cycle ∧ (s.transmit u f).settings = s.settings ∧
      (s.transmit u f).context = s.context ∧ (s.transmit u f).lateFrame = s.lateFrame ∧
      (s.transmit u f).stations = s.stations ∧ (s.transmit u f).stationSelect = s.stationSelect ∧
      (s.transmit u f).schedule = s.schedule ∧ (s.transmit u f).exmem = s.exmem ∧
      (s.transmit u f).exmemAddr = s.exmemAddr ∧ (s.transmit u f).ringU = s.ringU ∧
      (s.transmit u f).ringN = s.ringN ∧ (s.transmit u f).requests = s.requests ∧
      (s.transmit u f).orderIndex = s.orderIndex ∧ (s.transmit u f).queue = s.queue ∧
      (s.transmit u f).host = s.host ∧ (s.transmit u f).pending = s.pending ∧
      (s.transmit u f).lateWatch = none ∧
      (s.transmit u f).line.tx = some { user := u, frame := f, sent := 0 } ∧
      (s.transmit u f).line.idleRun = 0 ∧ (s.transmit u f).line.streak = s.line.streak := by
  simp [State.transmit]

/-- Replacing the receiver changes nothing else. -/
@[simp] theorem State.setReceiver_frame (s : State) (x : Receiver) :
    (s.setReceiver x).engine = s.engine ∧ (s.setReceiver x).resetAsserted = s.resetAsserted ∧
      (s.setReceiver x).cycle = s.cycle ∧ (s.setReceiver x).settings = s.settings ∧
      (s.setReceiver x).context = s.context ∧ (s.setReceiver x).lateWatch = s.lateWatch ∧
      (s.setReceiver x).lateFrame = s.lateFrame ∧ (s.setReceiver x).stations = s.stations ∧
      (s.setReceiver x).stationSelect = s.stationSelect ∧ (s.setReceiver x).schedule = s.schedule ∧
      (s.setReceiver x).exmem = s.exmem ∧ (s.setReceiver x).exmemAddr = s.exmemAddr ∧
      (s.setReceiver x).ringU = s.ringU ∧ (s.setReceiver x).ringN = s.ringN ∧
      (s.setReceiver x).requests = s.requests ∧ (s.setReceiver x).orderIndex = s.orderIndex ∧
      (s.setReceiver x).queue = s.queue ∧ (s.setReceiver x).host = s.host ∧
      (s.setReceiver x).pending = s.pending ∧ (s.setReceiver x).line.rx = x ∧
      (s.setReceiver x).line.tx = s.line.tx ∧ (s.setReceiver x).line.idleRun = s.line.idleRun ∧
      (s.setReceiver x).line.rest = s.line.rest ∧ (s.setReceiver x).line.cell = s.line.cell ∧
      (s.setReceiver x).line.streak = s.line.streak ∧ (s.setReceiver x).line.freeIndex = s.line.freeIndex := by
  simp [State.setReceiver]

/-- Taking a tag changes the Station Table alone (R50, R51). -/
@[simp] theorem State.takeTag_frame (s : State) (e : Exchange) :
    ((s.takeTag e).1).engine = s.engine ∧ ((s.takeTag e).1).resetAsserted = s.resetAsserted ∧
      ((s.takeTag e).1).line = s.line ∧ ((s.takeTag e).1).cycle = s.cycle ∧
      ((s.takeTag e).1).settings = s.settings ∧ ((s.takeTag e).1).context = s.context ∧
      ((s.takeTag e).1).lateWatch = s.lateWatch ∧ ((s.takeTag e).1).lateFrame = s.lateFrame ∧
      ((s.takeTag e).1).stationSelect = s.stationSelect ∧ ((s.takeTag e).1).schedule = s.schedule ∧
      ((s.takeTag e).1).exmem = s.exmem ∧ ((s.takeTag e).1).exmemAddr = s.exmemAddr ∧
      ((s.takeTag e).1).ringU = s.ringU ∧ ((s.takeTag e).1).ringN = s.ringN ∧
      ((s.takeTag e).1).requests = s.requests ∧ ((s.takeTag e).1).orderIndex = s.orderIndex ∧
      ((s.takeTag e).1).queue = s.queue ∧ ((s.takeTag e).1).host = s.host ∧
      ((s.takeTag e).1).pending = s.pending := by
  unfold State.takeTag; dsimp only; repeat' split
  all_goals simp

/-- What a try's beginning changes (R41). -/
@[simp] theorem State.beginTry_frame (s : State) (e : Exchange) :
    (s.beginTry e).engine = s.engine ∧ (s.beginTry e).resetAsserted = s.resetAsserted ∧
      (s.beginTry e).cycle = s.cycle ∧ (s.beginTry e).settings = s.settings ∧
      (s.beginTry e).lateFrame = s.lateFrame ∧ (s.beginTry e).stationSelect = s.stationSelect ∧
      (s.beginTry e).schedule = s.schedule ∧ (s.beginTry e).exmem = s.exmem ∧
      (s.beginTry e).exmemAddr = s.exmemAddr ∧ (s.beginTry e).ringU = s.ringU ∧
      (s.beginTry e).ringN = s.ringN ∧ (s.beginTry e).requests = s.requests ∧
      (s.beginTry e).orderIndex = s.orderIndex ∧ (s.beginTry e).queue = s.queue ∧
      (s.beginTry e).host = s.host ∧ (s.beginTry e).pending = s.pending ∧ (s.beginTry e).lateWatch = none ∧
      (s.beginTry e).line.idleRun = 0 ∧ (s.beginTry e).line.streak = s.line.streak := by
  simp [State.beginTry]

/-- What an exchange's accounting changes (R57). -/
@[simp] theorem State.accountExchange_frame (s : State) (e : Exchange) :
    (s.accountExchange e).engine = s.engine ∧ (s.accountExchange e).resetAsserted = s.resetAsserted ∧
      (s.accountExchange e).line = s.line ∧ (s.accountExchange e).cycle = s.cycle ∧
      (s.accountExchange e).settings = s.settings ∧ (s.accountExchange e).context = s.context ∧
      (s.accountExchange e).lateWatch = s.lateWatch ∧ (s.accountExchange e).lateFrame = s.lateFrame ∧
      (s.accountExchange e).stationSelect = s.stationSelect ∧ (s.accountExchange e).schedule = s.schedule ∧
      (s.accountExchange e).exmem = s.exmem ∧ (s.accountExchange e).exmemAddr = s.exmemAddr ∧
      (s.accountExchange e).ringU = s.ringU ∧ (s.accountExchange e).ringN = s.ringN ∧
      (s.accountExchange e).requests = s.requests ∧ (s.accountExchange e).orderIndex = s.orderIndex ∧
      (s.accountExchange e).pending = s.pending ∧ (s.accountExchange e).host.intEnable = s.host.intEnable ∧
      (s.accountExchange e).host.windowStatus = s.host.windowStatus ∧
      (s.accountExchange e).host.commandStatus = s.host.commandStatus ∧
      (s.accountExchange e).host.readData = s.host.readData := by
  unfold State.accountExchange; repeat' split
  all_goals simp

/-- What a stay's supervision update changes (R57). -/
@[simp] theorem State.superviseExchange_frame (s : State) (e : Exchange) :
    (s.superviseExchange e).engine = s.engine ∧ (s.superviseExchange e).resetAsserted = s.resetAsserted ∧
      (s.superviseExchange e).line = s.line ∧ (s.superviseExchange e).cycle = s.cycle ∧
      (s.superviseExchange e).settings = s.settings ∧ (s.superviseExchange e).context = s.context ∧
      (s.superviseExchange e).lateWatch = s.lateWatch ∧ (s.superviseExchange e).lateFrame = s.lateFrame ∧
      (s.superviseExchange e).stationSelect = s.stationSelect ∧ (s.superviseExchange e).schedule = s.schedule ∧
      (s.superviseExchange e).exmem = s.exmem ∧ (s.superviseExchange e).exmemAddr = s.exmemAddr ∧
      (s.superviseExchange e).ringU = s.ringU ∧ (s.superviseExchange e).ringN = s.ringN ∧
      (s.superviseExchange e).requests = s.requests ∧ (s.superviseExchange e).orderIndex = s.orderIndex ∧
      (s.superviseExchange e).pending = s.pending ∧ (s.superviseExchange e).host.intEnable = s.host.intEnable ∧
      (s.superviseExchange e).host.windowStatus = s.host.windowStatus ∧
      (s.superviseExchange e).host.commandStatus = s.host.commandStatus ∧
      (s.superviseExchange e).host.readData = s.host.readData := by
  unfold State.superviseExchange; repeat' split
  all_goals simp

/-- What the source of an exchange changes when it takes the result (R57). -/
@[simp] theorem State.sourceTakes_frame (s : State) (e : Exchange) (k : Result) (p : Option Reply) :
    (s.sourceTakes e k p).engine = s.engine ∧ (s.sourceTakes e k p).resetAsserted = s.resetAsserted ∧
      (s.sourceTakes e k p).line = s.line ∧ (s.sourceTakes e k p).cycle = s.cycle ∧
      (s.sourceTakes e k p).settings = s.settings ∧ (s.sourceTakes e k p).context = s.context ∧
      (s.sourceTakes e k p).lateWatch = s.lateWatch ∧ (s.sourceTakes e k p).lateFrame = s.lateFrame ∧
      (s.sourceTakes e k p).stations = s.stations ∧ (s.sourceTakes e k p).stationSelect = s.stationSelect ∧
      (s.sourceTakes e k p).exmemAddr = s.exmemAddr ∧ (s.sourceTakes e k p).orderIndex = s.orderIndex ∧
      (s.sourceTakes e k p).pending = s.pending ∧ (s.sourceTakes e k p).schedule.page0 = s.schedule.page0 ∧
      (s.sourceTakes e k p).schedule.page1 = s.schedule.page1 ∧
      (s.sourceTakes e k p).schedule.active = s.schedule.active ∧
      (s.sourceTakes e k p).schedule.swapPending = s.schedule.swapPending ∧
      (s.sourceTakes e k p).schedule.hold = s.schedule.hold ∧
      (s.sourceTakes e k p).schedule.select = s.schedule.select ∧
      (s.sourceTakes e k p).schedule.view = s.schedule.view ∧
      (s.sourceTakes e k p).host.intEnable = s.host.intEnable ∧
      (s.sourceTakes e k p).host.windowStatus = s.host.windowStatus ∧
      (s.sourceTakes e k p).host.commandStatus = s.host.commandStatus ∧
      (s.sourceTakes e k p).host.readData = s.host.readData := by
  unfold State.sourceTakes; dsimp only; repeat' split
  all_goals simp

/-- What follows when the context empties (R31, R33, R39, R184). -/
@[simp] theorem State.emptyContext_frame (s : State) (x : Source) :
    (s.emptyContext x).resetAsserted = s.resetAsserted ∧ (s.emptyContext x).settings = s.settings ∧
      (s.emptyContext x).stations = s.stations ∧ (s.emptyContext x).stationSelect = s.stationSelect ∧
      (s.emptyContext x).exmem = s.exmem ∧ (s.emptyContext x).exmemAddr = s.exmemAddr ∧
      (s.emptyContext x).ringU = s.ringU ∧ (s.emptyContext x).ringN = s.ringN ∧
      (s.emptyContext x).requests = s.requests ∧ (s.emptyContext x).orderIndex = s.orderIndex ∧
      (s.emptyContext x).pending = s.pending ∧ (s.emptyContext x).context = none ∧
      (s.emptyContext x).line.tx = s.line.tx ∧ (s.emptyContext x).line.idleRun = s.line.idleRun ∧
      (s.emptyContext x).line.rest = s.line.rest ∧ (s.emptyContext x).line.cell = s.line.cell ∧
      (s.emptyContext x).line.streak = s.line.streak ∧ (s.emptyContext x).line.freeIndex = s.line.freeIndex ∧
      (s.emptyContext x).schedule.page0 = s.schedule.page0 ∧
      (s.emptyContext x).schedule.page1 = s.schedule.page1 ∧
      (s.emptyContext x).schedule.hold = s.schedule.hold ∧
      (s.emptyContext x).schedule.select = s.schedule.select ∧
      (s.emptyContext x).schedule.view = s.schedule.view ∧
      (s.emptyContext x).host.intEnable = s.host.intEnable ∧
      (s.emptyContext x).host.windowStatus = s.host.windowStatus ∧
      (s.emptyContext x).host.commandStatus = s.host.commandStatus ∧
      (s.emptyContext x).host.readData = s.host.readData ∧ (s.emptyContext x).cycle.clock = s.cycle.clock ∧
      (s.emptyContext x).cycle.number = s.cycle.number ∧
      (s.emptyContext x).cycle.oldNumber = s.cycle.oldNumber ∧
      (s.emptyContext x).cycle.lateMarks = s.cycle.lateMarks ∧
      (s.emptyContext x).cycle.rollPointer = s.cycle.rollPointer ∧
      (s.emptyContext x).cycle.rollDone = s.cycle.rollDone := by
  unfold State.emptyContext; dsimp only; repeat' split
  all_goals simp_all

/-- What the end of an exchange leaves (R57). -/
@[simp] theorem State.endExchange_frame (s : State) (e : Exchange) (k : Result) (p : Option Reply) :
    (s.endExchange e k p).resetAsserted = s.resetAsserted ∧ (s.endExchange e k p).settings = s.settings ∧
      (s.endExchange e k p).stationSelect = s.stationSelect ∧ (s.endExchange e k p).exmemAddr = s.exmemAddr ∧
      (s.endExchange e k p).orderIndex = s.orderIndex ∧ (s.endExchange e k p).pending = s.pending ∧
      (s.endExchange e k p).context = none ∧ (s.endExchange e k p).line.tx = s.line.tx ∧
      (s.endExchange e k p).line.idleRun = s.line.idleRun ∧ (s.endExchange e k p).line.rest = s.line.rest ∧
      (s.endExchange e k p).line.cell = s.line.cell ∧ (s.endExchange e k p).line.streak = s.line.streak ∧
      (s.endExchange e k p).line.freeIndex = s.line.freeIndex ∧
      (s.endExchange e k p).schedule.page0 = s.schedule.page0 ∧
      (s.endExchange e k p).schedule.page1 = s.schedule.page1 ∧
      (s.endExchange e k p).schedule.hold = s.schedule.hold ∧
      (s.endExchange e k p).schedule.select = s.schedule.select ∧
      (s.endExchange e k p).schedule.view = s.schedule.view ∧
      (s.endExchange e k p).host.intEnable = s.host.intEnable ∧
      (s.endExchange e k p).host.windowStatus = s.host.windowStatus ∧
      (s.endExchange e k p).host.commandStatus = s.host.commandStatus ∧
      (s.endExchange e k p).host.readData = s.host.readData ∧
      (s.endExchange e k p).cycle.clock = s.cycle.clock ∧ (s.endExchange e k p).cycle.number = s.cycle.number ∧
      (s.endExchange e k p).cycle.oldNumber = s.cycle.oldNumber ∧
      (s.endExchange e k p).cycle.lateMarks = s.cycle.lateMarks ∧
      (s.endExchange e k p).cycle.rollPointer = s.cycle.rollPointer ∧
      (s.endExchange e k p).cycle.rollDone = s.cycle.rollDone := by
  simp [State.endExchange]

/-- What a return to staging leaves (R54, R124). -/
@[simp] theorem State.returnToStaging_frame (s : State) (e : Exchange) :
    (s.returnToStaging e).resetAsserted = s.resetAsserted ∧ (s.returnToStaging e).settings = s.settings ∧
      (s.returnToStaging e).stationSelect = s.stationSelect ∧ (s.returnToStaging e).exmem = s.exmem ∧
      (s.returnToStaging e).exmemAddr = s.exmemAddr ∧ (s.returnToStaging e).requests = s.requests ∧
      (s.returnToStaging e).orderIndex = s.orderIndex ∧ (s.returnToStaging e).pending = s.pending ∧
      (s.returnToStaging e).context = none ∧ (s.returnToStaging e).line.tx = s.line.tx ∧
      (s.returnToStaging e).line.idleRun = s.line.idleRun ∧ (s.returnToStaging e).line.rest = s.line.rest ∧
      (s.returnToStaging e).line.cell = s.line.cell ∧ (s.returnToStaging e).line.streak = s.line.streak ∧
      (s.returnToStaging e).line.freeIndex = s.line.freeIndex ∧
      (s.returnToStaging e).schedule.page0 = s.schedule.page0 ∧
      (s.returnToStaging e).schedule.page1 = s.schedule.page1 ∧
      (s.returnToStaging e).schedule.hold = s.schedule.hold ∧
      (s.returnToStaging e).schedule.select = s.schedule.select ∧
      (s.returnToStaging e).schedule.view = s.schedule.view ∧
      (s.returnToStaging e).host.intEnable = s.host.intEnable ∧
      (s.returnToStaging e).host.windowStatus = s.host.windowStatus ∧
      (s.returnToStaging e).host.commandStatus = s.host.commandStatus ∧
      (s.returnToStaging e).host.readData = s.host.readData ∧
      (s.returnToStaging e).cycle.clock = s.cycle.clock ∧ (s.returnToStaging e).cycle.number = s.cycle.number ∧
      (s.returnToStaging e).cycle.oldNumber = s.cycle.oldNumber ∧
      (s.returnToStaging e).cycle.lateMarks = s.cycle.lateMarks ∧
      (s.returnToStaging e).cycle.rollPointer = s.cycle.rollPointer ∧
      (s.returnToStaging e).cycle.rollDone = s.cycle.rollDone := by
  unfold State.returnToStaging; dsimp only; repeat' split
  all_goals simp

/-- What ending an exchange by ABORT or LINE_FAULT leaves (R61, R62). -/
@[simp] theorem State.interrupt_frame (s : State) (k : Result) :
    (s.interrupt k).engine = s.engine ∧ (s.interrupt k).resetAsserted = s.resetAsserted ∧
      (s.interrupt k).line = s.line ∧ (s.interrupt k).cycle = s.cycle ∧ (s.interrupt k).settings = s.settings ∧
      (s.interrupt k).lateWatch = s.lateWatch ∧ (s.interrupt k).lateFrame = s.lateFrame ∧
      (s.interrupt k).stationSelect = s.stationSelect ∧ (s.interrupt k).exmemAddr = s.exmemAddr ∧
      (s.interrupt k).orderIndex = s.orderIndex ∧ (s.interrupt k).pending = s.pending ∧
      (s.interrupt k).context = none ∧ (s.interrupt k).schedule.page0 = s.schedule.page0 ∧
      (s.interrupt k).schedule.page1 = s.schedule.page1 ∧ (s.interrupt k).schedule.active = s.schedule.active ∧
      (s.interrupt k).schedule.swapPending = s.schedule.swapPending ∧
      (s.interrupt k).schedule.hold = s.schedule.hold ∧ (s.interrupt k).schedule.select = s.schedule.select ∧
      (s.interrupt k).schedule.view = s.schedule.view ∧ (s.interrupt k).host.intEnable = s.host.intEnable ∧
      (s.interrupt k).host.windowStatus = s.host.windowStatus ∧
      (s.interrupt k).host.commandStatus = s.host.commandStatus ∧
      (s.interrupt k).host.readData = s.host.readData := by
  unfold State.interrupt; split <;> simp_all

/-- What a concluded try can change (R52). -/
@[simp] theorem State.concludeTry_frame (s : State) (e : Exchange) (o : TryOutcome) (p : Option Reply) :
    (s.concludeTry e o p).resetAsserted = s.resetAsserted ∧ (s.concludeTry e o p).settings = s.settings ∧
      (s.concludeTry e o p).stationSelect = s.stationSelect ∧ (s.concludeTry e o p).exmemAddr = s.exmemAddr ∧
      (s.concludeTry e o p).orderIndex = s.orderIndex ∧ (s.concludeTry e o p).pending = s.pending ∧
      (s.concludeTry e o p).line.tx = s.line.tx ∧ (s.concludeTry e o p).line.idleRun = s.line.idleRun ∧
      (s.concludeTry e o p).line.rest = s.line.rest ∧ (s.concludeTry e o p).line.cell = s.line.cell ∧
      (s.concludeTry e o p).line.streak = s.line.streak ∧
      (s.concludeTry e o p).line.freeIndex = s.line.freeIndex ∧
      (s.concludeTry e o p).schedule.page0 = s.schedule.page0 ∧
      (s.concludeTry e o p).schedule.page1 = s.schedule.page1 ∧
      (s.concludeTry e o p).schedule.hold = s.schedule.hold ∧
      (s.concludeTry e o p).schedule.select = s.schedule.select ∧
      (s.concludeTry e o p).schedule.view = s.schedule.view ∧
      (s.concludeTry e o p).host.intEnable = s.host.intEnable ∧
      (s.concludeTry e o p).host.windowStatus = s.host.windowStatus ∧
      (s.concludeTry e o p).host.commandStatus = s.host.commandStatus ∧
      (s.concludeTry e o p).host.readData = s.host.readData ∧
      (s.concludeTry e o p).cycle.clock = s.cycle.clock ∧ (s.concludeTry e o p).cycle.number = s.cycle.number ∧
      (s.concludeTry e o p).cycle.oldNumber = s.cycle.oldNumber ∧
      (s.concludeTry e o p).cycle.lateMarks = s.cycle.lateMarks ∧
      (s.concludeTry e o p).cycle.rollPointer = s.cycle.rollPointer ∧
      (s.concludeTry e o p).cycle.rollDone = s.cycle.rollDone := by
  unfold State.concludeTry; dsimp only; repeat' split
  all_goals simp

/-- What the entry to LINE_FAULT leaves (R62, R186). -/
@[simp] theorem State.enterLineFault_frame (s : State) (k : BitVec 5) :
    (s.enterLineFault k).resetAsserted = s.resetAsserted ∧ (s.enterLineFault k).line = s.line ∧
      (s.enterLineFault k).settings = s.settings ∧ (s.enterLineFault k).lateWatch = s.lateWatch ∧
      (s.enterLineFault k).lateFrame = s.lateFrame ∧ (s.enterLineFault k).stationSelect = s.stationSelect ∧
      (s.enterLineFault k).exmemAddr = s.exmemAddr ∧ (s.enterLineFault k).orderIndex = s.orderIndex ∧
      (s.enterLineFault k).pending = s.pending ∧ (s.enterLineFault k).engine = .lineFault ∧
      (s.enterLineFault k).context = none ∧ (s.enterLineFault k).cycle = s.dropCycleWork.cycle ∧
      (s.enterLineFault k).schedule.page0 = s.schedule.page0 ∧
      (s.enterLineFault k).schedule.page1 = s.schedule.page1 ∧
      (s.enterLineFault k).schedule.active = s.schedule.active ∧
      (s.enterLineFault k).schedule.swapPending = s.schedule.swapPending ∧
      (s.enterLineFault k).schedule.hold = s.schedule.hold ∧
      (s.enterLineFault k).schedule.select = s.schedule.select ∧
      (s.enterLineFault k).schedule.view = s.schedule.view ∧
      (s.enterLineFault k).host.intEnable = s.host.intEnable ∧
      (s.enterLineFault k).host.windowStatus = s.host.windowStatus ∧
      (s.enterLineFault k).host.commandStatus = s.host.commandStatus ∧
      (s.enterLineFault k).host.readData = s.host.readData := by
  simp [State.enterLineFault, State.dropCycleWork]

end Sys2Proof.Machine
end

