-- ==== Sys2Proof/Laws/Memory.lean ====
section
/-! SUPPORT. The exchange memory: a read after a write, and the one form that every operation keeps (R107 to
R109). -/

namespace Sys2Proof.Machine

/-- The hardware-reset memory has the one form. -/
theorem State.reset_exmem_wf : State.reset.exmem.wf = true := rfl

/-- The one form from an offset on is the one form from any lesser offset on. -/
theorem Memory.wfFrom_mono {m : Memory} {k l : Nat} (h : l ≤ k) (w : Memory.wfFrom k m = true) :
    Memory.wfFrom l m = true := by
  cases m with
  | nil => rfl
  | cons p rest =>
    obtain ⟨a, v⟩ := p
    simp only [Memory.wfFrom, Bool.and_eq_true, decide_eq_true_eq] at w ⊢
    exact ⟨⟨⟨by omega, w.1.1.2⟩, w.1.2⟩, w.2⟩

/-- An offset below every listed one reads 0. -/
theorem Memory.byteAt_below {m : Memory} {k a : Nat} (w : Memory.wfFrom k m = true) (h : a < k) :
    m.byteAt a = 0 := by
  induction m generalizing k with
  | nil => rfl
  | cons p rest ih =>
    obtain ⟨b, v⟩ := p
    simp only [Memory.wfFrom, Bool.and_eq_true, decide_eq_true_eq] at w
    have : a ≠ b := by omega
    simp only [Memory.byteAt, this, if_false]
    exact ih w.2 (by omega)

/-- Writing a byte keeps the one form from an offset on. -/
theorem Memory.setByte_wfFrom {m : Memory} {k a : Nat} (v : Byte) (w : Memory.wfFrom k m = true)
    (hk : k ≤ a) (ha : a < 4096) : Memory.wfFrom k (m.setByte a v) = true := by
  induction m generalizing k with
  | nil =>
    unfold Memory.setByte; split <;> simp_all [Memory.wfFrom, Config.exchangeBytes]
  | cons p rest ih =>
    obtain ⟨b, x⟩ := p
    have w' := w
    simp only [Memory.wfFrom, Bool.and_eq_true, decide_eq_true_eq] at w'
    obtain ⟨⟨⟨h1, h2⟩, h3⟩, h4⟩ := w'
    unfold Memory.setByte
    by_cases hab : a < b
    · rw [if_pos hab]
      split
      · exact w
      · simp_all [Memory.wfFrom, Config.exchangeBytes]
    · rw [if_neg hab]
      by_cases he : a = b
      · rw [if_pos he]
        split
        · exact Memory.wfFrom_mono (by omega) h4
        · subst he; simp_all [Memory.wfFrom]
      · rw [if_neg he]
        have := ih h4 (by omega)
        simp_all [Memory.wfFrom]

/-- Writing a byte of the memory keeps the one form. -/
theorem Memory.setByte_wf {m : Memory} {a : Nat} (v : Byte) (w : m.wf = true) (ha : a < 4096) :
    (m.setByte a v).wf = true := Memory.setByte_wfFrom v w (Nat.zero_le a) ha

/-- Writing a run of bytes keeps the one form. -/
theorem Memory.setBytes_wf {m : Memory} (a : Nat) (l : List Byte) (w : m.wf = true) :
    (m.setBytes a l).wf = true := by
  induction l generalizing m a with
  | nil => exact w
  | cons b rest ih =>
    exact ih _ (Memory.setByte_wf b w (Nat.mod_lt _ (by decide)))

/-- A read after a write of one byte, from an offset on. -/
theorem Memory.byteAt_setByte_from {m : Memory} {k : Nat} (a c : Nat) (v : Byte)
    (w : Memory.wfFrom k m = true) :
    (m.setByte a v).byteAt c = if c = a then v else m.byteAt c := by
  induction m generalizing k with
  | nil =>
    by_cases hv : v = 0#8
    · simp [Memory.setByte, hv, Memory.byteAt]
    · have : v ≠ 0 := hv
      simp only [Memory.setByte, this, if_false, Memory.byteAt]
  | cons p rest ih =>
    obtain ⟨b, x⟩ := p
    simp only [Memory.wfFrom, Bool.and_eq_true, decide_eq_true_eq] at w
    obtain ⟨⟨⟨h1, h2⟩, h3⟩, h4⟩ := w
    unfold Memory.setByte
    by_cases hab : a < b
    · rw [if_pos hab]
      by_cases hv : v = 0
      · rw [if_pos hv]
        by_cases hc : c = a
        · subst hc
          have hr := Memory.byteAt_below h4 (show c < b + 1 by omega)
          have : c ≠ b := by omega
          simp [Memory.byteAt, this, hr, hv]
        · simp [hc]
      · rw [if_neg hv]; simp [Memory.byteAt]
    · rw [if_neg hab]
      by_cases he : a = b
      · rw [if_pos he]
        subst he
        by_cases hv : v = 0
        · rw [if_pos hv]
          by_cases hc : c = a
          · subst hc
            simp [hv, Memory.byteAt_below h4 (Nat.lt_succ_self c)]
          · simp [hc, Memory.byteAt]
        · rw [if_neg hv]
          by_cases hc : c = a <;> simp [hc, Memory.byteAt]
      · rw [if_neg he]
        by_cases hc : c = b
        · have : c ≠ a := by omega
          simp [Memory.byteAt, hc, Ne.symm he]
        · simp only [Memory.byteAt, hc, if_false]
          exact ih h4

/-- A read after a write of one byte: the byte written there, and the byte as before anywhere else. -/
theorem Memory.byteAt_setByte {m : Memory} (a c : Nat) (v : Byte) (w : m.wf = true) :
    (m.setByte a v).byteAt c = if c = a then v else m.byteAt c := Memory.byteAt_setByte_from a c v w

/-- A read after a write of a run of bytes that stays within the memory. -/
theorem Memory.byteAt_setBytes {m : Memory} (a c : Nat) (l : List Byte) (w : m.wf = true)
    (h : a + l.length ≤ 4096) :
    (m.setBytes a l).byteAt c =
      if a ≤ c ∧ c < a + l.length then l.getD (c - a) 0 else m.byteAt c := by
  induction l generalizing m a with
  | nil =>
    have : ¬(a ≤ c ∧ c < a + ([] : List Byte).length) := by simp
    rw [if_neg this]; rfl
  | cons b rest ih =>
    simp only [List.length_cons] at h
    have hm : a % 4096 = a := Nat.mod_eq_of_lt (by omega)
    simp only [Memory.setBytes, Config.exchangeBytes, hm]
    rw [ih _ (Memory.setByte_wf b w (by omega)) (by omega), Memory.byteAt_setByte _ _ _ w]
    simp only [List.length_cons]
    by_cases h1 : c = a
    · subst h1; simp
    · by_cases h2 : a + 1 ≤ c ∧ c < a + 1 + rest.length
      · have h3 : a ≤ c ∧ c < a + (rest.length + 1) := by omega
        obtain ⟨d, hd⟩ : ∃ d, c - a = d + 1 := ⟨c - a - 1, by omega⟩
        have h4 : c - (a + 1) = d := by omega
        rw [if_pos h2, if_pos h3, hd, h4]; rfl
      · have h3 : ¬(a ≤ c ∧ c < a + (rest.length + 1)) := by omega
        rw [if_neg h2, if_neg h3, if_neg h1]

/-- An area has as many bytes as it asks for. -/
@[simp] theorem Memory.bytesAt_length (m : Memory) (a n : Nat) : (m.bytesAt a n).length = n := by
  simp [Memory.bytesAt]

end Sys2Proof.Machine
end

