-- ==== Sys2Proof/Laws/Operations.lean ====
section
/-! SUPPORT. What each shared operation does, said once: flags, the completion queue, station records,
supervision, accounting, the request queue and the entries to HALTED and LINE_FAULT. -/

namespace Sys2Proof.Machine

/-! ### Flags and host accesses -/

/-- Setting a flag sets that flag and leaves every other as it was (R172). -/
@[simp] theorem State.flag_raise (s : State) (f g : IntFlag) :
    (s.raise f).flag g = (decide (g = f) || s.flag g) := by
  cases f <;> cases g <;> simp [State.raise, State.flag, IntFlag.mask, IntFlag.bit]

/-- Two states with the same pending flags show the same flags. -/
theorem State.flag_congr {s t : State} (h : s.host.intPending = t.host.intPending) (f : IntFlag) :
    s.flag f = t.flag f := by simp [State.flag, h]

/-- In INIT a host access changes nothing (R176). -/
theorem State.hostAccess_init {s : State} (h : s.engine = .init) (effect : State → State) :
    s.hostAccess effect = .next s := by simp [State.hostAccess, h]

/-- Outside INIT a host access has its effect. -/
theorem State.hostAccess_taken {s : State} (h : s.engine ≠ .init) (effect : State → State) :
    s.hostAccess effect = .next (effect s) := by simp [State.hostAccess, h]

/-- A clamped field lies in its range (R192). -/
theorem clampField_range {least greatest : Nat} (h : least ≤ greatest) (v : Nat) :
    least ≤ (clampField least greatest v).1 ∧ (clampField least greatest v).1 ≤ greatest := by
  simp only [clampField]; omega

/-- A field that lies in its range is stored as written (R192). -/
theorem clampField_inside {least greatest v : Nat} (h : least ≤ v) (h' : v ≤ greatest) :
    clampField least greatest v = (v, false) := by
  have : max least (min v greatest) = v := by omega
  simp [clampField, this]

/-! ### The CRC (R5) -/

/-- One bit of the CRC computation is linear. -/
theorem crcShift_xor (a b : BitVec 16) : crcShift (a ^^^ b) = crcShift a ^^^ crcShift b := by
  unfold crcShift
  rw [BitVec.msb_xor, BitVec.shiftLeft_xor_distrib]
  cases a.msb <;> cases b.msb <;> simp
  · rw [BitVec.xor_assoc]
  · ac_rfl
  · have : ∀ x y z : BitVec 16, x ^^^ y = x ^^^ z ^^^ (y ^^^ z) := by
      intro x y z
      ext i
      cases hy : y[i] <;> cases hz : z[i] <;> simp [hy, hz]
    exact this _ _ _
/-! ### Posts (R165, R168, R171) -/

/-- A post to a queue with room. -/
theorem State.post_room {s : State} (e : Entry) (h : s.queueFull = false) :
    s.post e =
      (if s.settings.notifyThreshold ≤ s.queue.entries.length + 1 then
        State.raise { s with queue := { s.queue with entries := s.queue.entries ++ [e] } } .notify
      else { s with queue := { s.queue with entries := s.queue.entries ++ [e] } }) := by
  simp [State.post, h]

/-- A post to a full queue. -/
theorem State.post_full {s : State} (e : Entry) (h : s.queueFull = true) :
    s.post e =
      State.raise { s with queue := { s.queue with
        overflow := min Config.overflowLimit (s.queue.overflow + 1) } } .overflow := by
  simp [State.post, h]

/-- A post depends on the queue alone in what it leaves there. -/
theorem State.post_queue_congr {s t : State} (h : s.queue = t.queue) (e : Entry) :
    (s.post e).queue = (t.post e).queue := by
  simp only [State.post, State.queueFull, h]; repeat' split
  all_goals simp_all

/-- A post leaves the host's registers as they were, INT_PENDING apart (R168, R171). -/
theorem State.post_host (s : State) (e : Entry) :
    { (s.post e).host with intPending := s.host.intPending } = s.host := by
  simp only [State.post]; repeat' split
  all_goals simp [State.raise]

/-- A post keeps the queue's bounds (R164). -/
theorem State.post_bounds (s : State) (e : Entry) (h : s.queue.entries.length ≤ 32)
    (h' : s.queue.overflow ≤ 255) :
    (s.post e).queue.entries.length ≤ 32 ∧ (s.post e).queue.overflow ≤ 255 := by
  cases hf : s.queueFull with
  | true =>
    rw [State.post_full e hf]
    exact ⟨by simpa using h, by simp [Config.overflowLimit]⟩
  | false =>
    have room : s.queue.entries.length < 32 := by
      have := of_decide_eq_false hf
      simpa [Config.queueDepth] using this
    rw [State.post_room e hf]
    split
    all_goals exact ⟨by simpa using room, by simpa using h'⟩

/-- A post sets NOTIFY or OVERFLOW and no other flag. -/
theorem State.post_flag (s : State) (e : Entry) {f : IntFlag} (h : f ≠ .notify) (h' : f ≠ .overflow) :
    (s.post e).flag f = s.flag f := by
  unfold State.post; repeat' split
  all_goals simp only [State.flag_raise, h, h', decide_false, Bool.false_or]
  all_goals rfl

/-- A flag that stands before a post stands after it. -/
theorem State.post_keeps_flag (s : State) (e : Entry) {f : IntFlag} (h : s.flag f = true) :
    (s.post e).flag f = true := by
  have keep : ∀ q, State.flag { s with queue := q } f = true := fun _ => h
  unfold State.post; repeat' split
  all_goals simp [State.flag_raise, keep]

/-! ### Station records (R65) -/

/-- The place of a station's address. -/
theorem recordIndex?_station {a : Address} (h : 1 ≤ a.toNat) (h' : a.toNat ≤ 62) :
    recordIndex? a = some ⟨a.toNat - 1, by omega⟩ := by simp [recordIndex?, h, h']

/-- Addresses 0 and 63 have no record. -/
theorem recordIndex?_none {a : Address} (h : ¬(1 ≤ a.toNat ∧ a.toNat ≤ 62)) : recordIndex? a = none := by
  simp only [recordIndex?, dif_neg h]

/-- Different addresses have different places. -/
theorem recordIndex?_injective {a b : Address} {i : Fin 62} (h : recordIndex? a = some i)
    (h' : recordIndex? b = some i) : a = b := by
  simp only [recordIndex?] at h h'
  split at h <;> split at h' <;> simp at h h'
  apply BitVec.eq_of_toNat_eq
  have := h.trans h'.symm
  simp only [Fin.mk.injEq] at this
  omega

/-- Reading a record after replacing it (R65). -/
theorem State.station_setStation (s : State) (a b : Address) (r : Station) :
    (s.setStation a r).station b =
      if b = a ∧ 1 ≤ a.toNat ∧ a.toNat ≤ 62 then r else s.station b := by
  by_cases h : 1 ≤ a.toNat ∧ a.toNat ≤ 62
  · have ha := recordIndex?_station h.1 h.2
    by_cases hb : b = a
    · subst hb; simp [State.setStation, State.station, ha, h]
    · simp only [hb, false_and, if_false]
      simp only [State.setStation, State.station, ha]
      cases hi : recordIndex? b with
      | none => rfl
      | some i =>
        have : (⟨a.toNat - 1, by omega⟩ : Fin 62) ≠ i := by
          intro he; exact hb (recordIndex?_injective hi (he ▸ ha))
        have hne : a.toNat - 1 ≠ i.val := fun he => this (Fin.ext he)
        simp [hne]
  · have ha := recordIndex?_none h
    simp [State.setStation, ha, h]

/-- A station in service has a record (R65). -/
theorem State.station_of_inService {s : State} {a : Address} (h : (s.station a).state.inService = true) :
    1 ≤ a.toNat ∧ a.toNat ≤ 62 := by
  by_cases hn : 1 ≤ a.toNat ∧ a.toNat ≤ 62
  · exact hn
  · simp [State.station, recordIndex?_none hn, Station.reset, StationState.inService] at h

/-- Two states with one Station Table show the same records. -/
theorem State.station_congr {s t : State} (h : s.stations = t.stations) (a : Address) :
    s.station a = t.station a := by simp [State.station, h]

/-! ### Rings and the request queue -/

/-- Replacing a ring leaves the other as it was. -/
theorem State.ringUnit_setRing (s : State) (r q : Ring) (x : RingUnit) :
    (s.setRing r x).ringUnit q = if q = r then x else s.ringUnit q := by
  cases r <;> cases q <;> simp [State.setRing, State.ringUnit]

/-- A request in service is left in service (R138). -/
theorem State.serve_begun {s : State} {q : Request} {rest : List Request} (h : s.requests = q :: rest)
    (hb : q.begun = true) : s.serve = s := by simp [State.serve, h, hb]

/-- On a busy port an issued request joins the queue as the newest (R136, R138). -/
theorem State.issue_busy {s : State} {p : Request} {rest : List Request} (h : s.requests = p :: rest)
    (hb : p.begun = true) (q : Request) : s.issue q = { s with requests := s.requests ++ [q] } := by
  simp [State.issue, State.serve, h, hb]

/-- On a free port an issued request begins at once (R138). -/
theorem State.issue_free {s : State} (h : s.requests = []) (q : Request) (hq : q.begun = false)
    (hk : q.kind ≠ .statusWrite) : s.issue q = { s with requests := [{ q with begun := true }] } := by
  cases hkind : q.kind <;> simp_all [State.issue, State.serve]

/-- The port goes on with the requests waiting, none of them begun: the oldest begins (R126, R138). -/
theorem State.serve_servesNext {s : State} (h : ∀ p ∈ s.requests, p.begun = false) :
    s.serve.servesNext s.requests := by
  cases hq : s.requests with
  | nil => simp [State.servesNext, State.serve, hq]
  | cons p more =>
    have hp : p.begun = false := h p (by simp [hq])
    have rings (r : Ring) : s.serve.ringUnit r = s.ringUnit r := by
      cases r <;> simp [State.serve, State.ringUnit, hq, hp]
    refine ⟨by simp, fun q l e hk => ?_, fun q l record c e hk hr hc => ?_⟩
    · obtain ⟨rfl, rfl⟩ := List.cons.inj e
      simp only [State.serve, hq, hp, Bool.false_eq_true, if_false]
      split
      · contradiction
      · rfl
    · obtain ⟨rfl, rfl⟩ := List.cons.inj e
      rw [rings] at hr
      simp [State.serve, hq, hp, hk, hr, RingRecord.statusBytes, hc]

/-- A ring's request joins behind those waiting, none of them begun, and the oldest begins (R136, R138). -/
theorem State.issue_servesNext {s : State} {q : Request} (h : ∀ p ∈ s.requests, p.begun = false)
    (hq : q.begun = false) : (s.issue q).servesNext (s.requests ++ [q]) :=
  State.serve_servesNext (s := { s with requests := s.requests ++ [q] }) (by
    simp only [List.mem_append, List.mem_singleton]
    rintro p (hp | rfl)
    exacts [h p hp, hq])

/-- Serving the queue changes no request's shape: it begins one and forms words (R126, R138). -/
theorem State.serve_shape (s : State) : s.serve.requests.map Request.shape = s.requests.map Request.shape := by
  cases h : s.requests with
  | nil => simp [State.serve, h]
  | cons q rest =>
    cases hb : q.begun with
    | true => simp [State.serve, h, hb]
    | false =>
      simp only [State.serve, h, hb, Bool.false_eq_true, if_false, List.map_cons, Request.shape]
      cases hk : q.kind <;> simp

/-- What an issue leaves of the queue (R126, R136, R138). -/
theorem State.issue_issuesBehind (s : State) {q : Request} (hq : q.begun = false) :
    (s.issue q).issuesBehind s.requests [q] :=
  ⟨State.serve_shape _, fun _ _ h hb => by simp [s.issue_busy h hb],
    fun h => by simpa [h] using State.issue_servesNext (s := s) (by simp [h]) hq⟩

/-- A completing record's write-back: behind a begun request it waits whole; on a free port the first of it begins,
a STATUS_WRITE with its words formed from the completed record (R125, R126, R136, R138). -/
theorem State.completeRecord_issuesBehind (s : State) (r : Ring) (record : RingRecord) (result : Result)
    (reply : Option Reply) :
    (s.completeRecord r record result reply).issuesBehind s.requests
      (record.replyRequests r reply ++ [s.statusWriteRequest r record]) := by
  have key : ∀ u : State, u.requests = s.requests →
      ((u.issueReply r record reply).issue (s.statusWriteRequest r record)).issuesBehind s.requests
        (record.replyRequests r reply ++ [s.statusWriteRequest r record]) := by
    intro u hu
    have plain : (u.issue (s.statusWriteRequest r record)).issuesBehind s.requests [s.statusWriteRequest r record] :=
      hu ▸ u.issue_issuesBehind rfl
    cases reply with
    | none => simpa [State.issueReply, RingRecord.replyRequests] using plain
    | some y =>
      by_cases hy : y.payload = []
      · simpa [State.issueReply, RingRecord.replyRequests, hy] using plain
      · simp only [State.issueReply, RingRecord.replyRequests, hy, List.length_eq_zero_iff, if_false]
        refine ⟨?_, fun q rest h hb => ?_, fun h => ?_⟩
        · simp only [State.issue, State.serve_shape, List.map_append, hu]
          simp [Request.fresh]
        · rw [u.issue_busy (hu.trans h) hb]
          rw [State.issue_busy (congrArg (· ++ [_]) (hu.trans h)) hb]
          simp [hu, Request.fresh]
        · rw [u.issue_free (hu.trans h) _ rfl (by simp [Request.fresh])]
          rw [State.issue_busy rfl rfl]
          refine ⟨by simp, fun p more e _ => ?_, fun p more _ _ e hk => ?_⟩ <;>
            obtain ⟨rfl, rfl⟩ := List.cons.inj e
          · rfl
          · cases hk
  exact key (s.setRing r { s.ringUnit r with
    stage := .writingBack
    current := some { record with completion := some { result := result, cycle := s.cycle.number, reply := reply } } })
    (by cases r <;> rfl)

/-- A ring that may not fetch issues nothing (R118). -/
theorem State.tryFetch_held {s : State} {r : Ring} (h : s.mayFetch r = false) : s.tryFetch r = s := by
  simp [State.tryFetch, h]

/-- No ring fetches while the request that a SOFT_RESET left begun is in the queue (R136, R145). -/
theorem State.mayFetch_sole {s : State} {q : Request} (h : q ∈ s.requests) (hq : q.sole = true) (r : Ring) :
    s.mayFetch r = false := by
  have : (s.requests.any fun q => q.ring = r || q.sole) = true := List.any_eq_true.mpr ⟨q, h, by simp [hq]⟩
  simp [State.mayFetch, this]

/-- What the end of a request can let be issued: after a SOFT_RESET's one request both rings' fetches, one after
the other, and otherwise its own ring's (R118, R136, R145). -/
theorem State.fetchAfter_cases (s : State) (q : Request) :
    (q.sole = false ∧ s.fetchAfter q = s.tryFetch q.ring)
      ∨ q.sole = true ∧ ∃ r, s.fetchAfter q =
        (State.tryFetch { s with orderIndex := s.orderIndex + 1 } r).tryFetch (otherRing r) := by
  unfold State.fetchAfter
  cases h : q.sole
  · exact .inl ⟨rfl, rfl⟩
  · exact .inr ⟨rfl, _, rfl⟩

/-! ### The entries to HALTED and LINE_FAULT (R186, R188) -/

/-- The line after a cut by the engine, but for the receiver (R3, R12; log entry 22). -/
theorem State.cutByEngine_line (s : State) :
    s.cutByEngine.line = { s.line.cutOff with rx := s.cutByEngine.line.rx } := by
  simp only [State.cutByEngine, LineUnit.cutOff]
  cases h : s.line.tx with
  | none => simp
  | some x => cases hx : x.user <;> simp [hx]

/-- The entry to HALTED sets the HALTED flag (R172). -/
@[simp] theorem State.enterHalted_flag (s : State) : s.enterHalted.flag .halted = true := by
  simp [State.enterHalted]

/-- The entry to LINE_FAULT sets the LINE flag (R172). -/
@[simp] theorem State.enterLineFault_flag (s : State) (k : BitVec 5) :
    (s.enterLineFault k).flag .line = true := by simp [State.enterLineFault]

/-- With no swap pending the entry to HALTED posts nothing. -/
theorem State.enterHalted_queue {s : State} (h : s.schedule.swapPending = false) :
    s.enterHalted.queue = s.queue ∧ s.enterHalted.schedule = s.schedule := by
  simp [State.enterHalted, State.applyPendingSwap, State.dropCycleWork, h]

/-! ### Time -/

/-- No time passing changes nothing. -/
@[simp] theorem State.elapse_zero (s : State) : s.elapse 0 = s := by simp [State.elapse]

/-- In INIT no trunk time is kept (R3, R21). -/
theorem State.elapse_init {s : State} (h : s.engine = .init) (k : Nat) : s.elapse k = s := by
  simp [State.elapse, h]

/-- Time passing takes the cycle's clock and the age of a want with it, and no other field of the Cycle Unit
(R21, R27). -/
theorem State.elapse_cycle (s : State) (k : Nat) : (s.elapse k).cycle = s.cycle.ranOn s.engine k := by
  unfold State.elapse CycleUnit.ranOn
  rcases Nat.eq_zero_or_pos k with rfl | hk
  · rcases h : s.cycle.want <;> cases hc : s.cycle <;> simp_all
  · cases h : s.engine <;>
      simp [Nat.pos_iff_ne_zero.mp hk, hk, CycleUnit.elapse, Engine.clockRuns, Config.clockLimit]

/-- With an empty context, time passing touches the line and the cycle alone. -/
theorem State.elapse_context_none {s : State} (h : s.context = none) (k : Nat) :
    (s.elapse k).context = none := by
  unfold State.elapse; split <;> simp [h]

/-- Time passing changes nothing of the exchange in the context but its expiry (R42). -/
theorem State.elapse_context_some {s : State} {e : Exchange} (h : s.context = some e) (k : Nat)
    (hi : s.engine ≠ .init) : (s.elapse k).context = some (e.elapse k) := by
  unfold State.elapse; split
  · rename_i h0
    have : k = 0 := by simpa [hi] using h0
    subst this
    cases e; simp [h, Exchange.elapse]
  · simp [h]

/-! ### What the end of an exchange hands on (Safety.lean) -/

/-- The same post after states that hand on the same. -/
theorem State.handsOn_post {t v : State} (h : t.handsOn v) (hs : t.settings = v.settings) (e : Entry) :
    (t.post e).handsOn (v.post e) := by
  obtain ⟨h1, h2, h3⟩ := h
  simp only [State.handsOn, State.post, State.queueFull, h2, hs, State.raise, h3]
  split <;> try split
  all_goals simp_all

/-- The same flag after states that hand on the same. -/
theorem State.handsOn_raise {t v : State} (h : t.handsOn v) (f : IntFlag) :
    (t.raise f).handsOn (v.raise f) := by
  obtain ⟨h1, h2, h3⟩ := h
  simp [State.handsOn, State.raise, h1, h2, h3]

/-- The accounting of an exchange (R57, R149). -/
theorem State.accountExchange_eq (s : State) (e : Exchange) :
    s.accountExchange e = s.afterAccounting e.source e.station e.unaccounted := by
  unfold State.accountExchange State.afterAccounting Exchange.toStation
  by_cases h : e.station = 63 <;> cases hs : e.source <;> simp [h, broadcastAddress]

/-- A report mode posts a result exactly when the statements say so (R106). -/
theorem ReportMode.posts_iff (m : ReportMode) (result : Result) :
    m.posts result = true ↔ m = .always ∨ m = .onFault ∧ result ≠ .ok ∧ result ≠ .okHeld := by
  cases m <;> simp [ReportMode.posts]

/-- A slot's result posts its SLOT entry and touches nothing else that is handed on (R106). -/
theorem State.slotResult_handsOn (s : State) (i : Fin 32) (result : Result) (causes : KindSet)
    (payload : List Byte) : (s.slotResult i result causes payload).handsOn (s.afterSlotEntry i result causes) := by
  unfold State.slotResult State.afterSlotEntry
  simp only [ReportMode.posts_iff]
  split
  · apply State.handsOn_post <;> split <;> first | rfl | exact ⟨rfl, rfl, rfl⟩
  · split <;> exact ⟨rfl, rfl, rfl⟩

/-- The entry to HALTED, with the context emptied or not, posts the SWAP_DONE of a pending swap and sets its flag
(R98, R188). -/
theorem State.enterHalted_handsOn_context (s : State) (context : Option Exchange) :
    (State.enterHalted { s with context := context }).handsOn s.afterHalting := by
  unfold State.enterHalted State.afterHalting State.applyPendingSwap
  apply State.handsOn_raise
  cases h : s.schedule.swapPending <;> simp only [State.dropCycleWork, h, Bool.false_eq_true, if_true, if_false]
  · exact ⟨rfl, rfl, rfl⟩
  · unfold State.applySwap
    apply State.handsOn_post <;> first | rfl | exact ⟨rfl, rfl, rfl⟩

/-- The entry to HALTED posts the SWAP_DONE of a pending swap and sets its flag (R98, R188). -/
theorem State.enterHalted_handsOn (s : State) : s.enterHalted.handsOn s.afterHalting :=
  s.enterHalted_handsOn_context s.context

/-- The move of a walk that is unfinished (R31, R33). -/
theorem State.walkFrom_eq {s : State} (h : s.cycle.walk ≠ none) (start : Nat) :
    s.walkFrom start = { s with cycle := s.cycle.walkedOn (s.dueSlotFrom start) } := by
  unfold State.walkFrom CycleUnit.walkedOn
  cases s.dueSlotFrom start <;> cases hw : s.cycle.want <;> simp [h, hw]

/-- A selection point in RUNNING (R33). -/
theorem State.selectionPoint_eq {s : State} (h : s.engine = .running) :
    s.selectionPoint = { s with cycle := s.cycle.selecting } := by
  cases s
  subst h
  unfold State.selectionPoint CycleUnit.selecting
  dsimp only
  split <;> split <;> simp_all

/-- An accepted frame leaves the line at its first bit (R9, R19). -/
theorem State.transmit_line (s : State) (user : TxUser) (frame : List Byte) :
    (s.transmit user frame).line = s.line.sending user frame := rfl

/-- The entry to HALTED from STOPPING, all of it (R98, R188). -/
theorem State.enterHalted_closes {s : State} (h : s.engine = .stopping) (moved : CycleUnit) :
    State.closes (State.enterHalted { s with context := none }) s moved := by
  refine ⟨?_, by simp [h], fun _ => ⟨?_, ?_, ?_, ?_, ?_, ?_, s.enterHalted_handsOn_context none⟩⟩ <;>
    cases hs : s.schedule.swapPending <;>
    simp [State.enterHalted, State.applyPendingSwap, State.afterHalting, State.dropCycleWork, State.applySwap, hs]

/-- The context empties after a slot's exchange (R31, R39, R184). -/
theorem State.emptyContext_closes_slot {s : State} (h : s.engine = .running ∨ s.engine = .stopping) (i : Fin 32) :
    (s.emptyContext (.slot i)).closes s (s.cycle.walkedOn (s.dueSlotFrom (i.val + 1))) := by
  rcases h with h | h
  · have : s.emptyContext (.slot i)
        = { s with context := none, cycle := s.cycle.walkedOn (s.dueSlotFrom (i.val + 1)) } := by
      unfold State.emptyContext
      cases hw : s.cycle.walk
      · cases s; simp_all [CycleUnit.walkedOn]
      · simp only [h, hw, Option.isSome_some, if_true]
        rw [State.walkFrom_eq (by simp [hw])]
        rfl
    rw [this]
    exact ⟨rfl, fun _ => ⟨h, rfl, rfl, rfl, rfl, rfl, rfl, rfl, rfl⟩, by simp [h]⟩
  · simpa [State.emptyContext, h] using State.enterHalted_closes h _

/-- The context empties after any other exchange (R33, R39, R184). -/
theorem State.emptyContext_closes {s : State} {source : Source} (h : s.engine = .running ∨ s.engine = .stopping)
    (hs : ∀ i, source ≠ .slot i) : (s.emptyContext source).closes s s.cycle.selecting := by
  rcases h with h | h
  · have : s.emptyContext source = { s with context := none, cycle := s.cycle.selecting } := by
      unfold State.emptyContext
      cases source with
      | slot i => exact absurd rfl (hs i)
      | ring r i => simp [h, State.selectionPoint_eq]
      | rollCall => simp [h, State.selectionPoint_eq]
    rw [this]
    exact ⟨rfl, fun _ => ⟨h, rfl, rfl, rfl, rfl, rfl, rfl, rfl, rfl⟩, by simp [h]⟩
  · have : s.emptyContext source = State.enterHalted { s with context := none } := by simp [State.emptyContext, h]
    rw [this]
    exact State.enterHalted_closes h _

/-- The entry to LINE_FAULT with an empty context, all of it (R186). -/
theorem State.enterLineFault_faults {s : State} (h : s.context = none) (code : BitVec 5) :
    (s.enterLineFault code).faults s code := by
  unfold State.enterLineFault State.interrupt
  simp only [h]
  refine ⟨?_, ?_, ?_, ?_, ?_, ?_, ?_, ?_⟩
  case refine_8 => apply State.handsOn_raise; apply State.handsOn_post <;> first | rfl | exact ⟨rfl, rfl, rfl⟩
  all_goals simp [State.dropCycleWork, h]

/-! ### The offers of a selection (R34, R35) -/

/-- An offer completes a record exactly when its tests give a result (R35). -/
theorem State.offerCompletes_iff (s : State) (r : Ring) :
    s.offerCompletes r = true ↔ ∃ record result, s.offerFails r record result := by
  unfold State.offerCompletes State.offerFails
  cases hs : (s.ringUnit r).stage <;> cases hc : (s.ringUnit r).current <;> simp [Option.isSome_iff_exists]

/-- An offer that the tests complete (R35). -/
theorem State.offer_fails {s : State} {r : Ring} {record : RingRecord} {result : Result}
    (h : s.offerFails r record result) : s.offer r = (s.completeRecord r record result none, false) := by
  obtain ⟨hs, hc, hv⟩ := h
  simp [State.offer, hs, hc, hv]

/-- A record whose tests give no result fits exactly when its budget does (R28, R29). -/
theorem State.fitsNow_iff {s : State} {record : RingRecord} (h : s.recordVerdict record = none) :
    s.fitsNow record ↔ s.fits (s.recordBudget record) = true := by
  unfold State.fits State.recordBudget State.budgetTo requestBudget broadcastBudget broadcastAddress
  rw [decide_eq_true_eq]
  exact and_iff_right h

/-- An offer of a record that passes its tests and fits (R29, R34). -/
theorem State.offer_chosen {s : State} {r : Ring} {record : RingRecord}
    (hs : (s.ringUnit r).stage = .staged) (hc : (s.ringUnit r).current = some record) (hf : s.fitsNow record) :
    s.offer r = (s.beginRecord r record, true) := by
  simp [State.offer, hs, hc, hf.1, (State.fitsNow_iff hf.1).mp hf]

/-- An offer of a ring with no staged record that can go leaves everything as it was (R34). -/
theorem State.offer_waits {s : State} {r : Ring} (h : s.stagedDoesNotFit r) : s.offer r = (s, false) := by
  rcases h with h | ⟨record, hc, hv, hf⟩
  · unfold State.offer
    cases hs : (s.ringUnit r).stage <;> cases hc : (s.ringUnit r).current <;> simp_all
  · have hb : s.fits (s.recordBudget record) = false := by simpa [State.fitsNow_iff hv] using hf
    cases hs : (s.ringUnit r).stage <;> simp [State.offer, hs, hc, hv, hb]

/-- The selection that completes both rings' records, in one order or the other (R35, R136; log entry 30). -/
theorem State.select_both {s : State} (h : ∀ r, s.offerCompletes r = true) :
    ∃ first, s.select =
      (State.offerBoth
        { s with cycle := { s.cycle with owed := false }, orderIndex := s.orderIndex + 1 } first).considerRollCall := by
  have h' (r : Ring) : State.offerCompletes { s with cycle := { s.cycle with owed := false } } r = true := by
    rw [← h r]; cases r <;> rfl
  exact ⟨_, by simp only [State.select, h', Bool.and_self, if_true]; rfl⟩

/-- Every other selection: ring U's offer, ring N's, and the roll call, until one is chosen (R34). -/
theorem State.select_one {s : State} {r : Ring} (h : s.offerCompletes r = false) :
    s.select =
      (let u := State.offer { s with cycle := { s.cycle with owed := false } } .u
       let n := u.1.offer .n
       if u.2 then u.1 else if n.2 then n.1 else n.1.considerRollCall) := by
  have h' : State.offerCompletes { s with cycle := { s.cycle with owed := false } } r = false := by
    rw [← h]; cases r <;> rfl
  cases r <;> simp only [State.select, h', Bool.and_false, Bool.false_and, Bool.false_eq_true, if_false]

end Sys2Proof.Machine
end

