-- ==== Sys2Proof/Tests/Slice0.lean ====
section
/-! SUPPORT. Own tests: the well-formedness smoke, the layouts against words written out from the spec, one
small step for commands of each family, and for every statement with hypotheses a state that meets them. -/

namespace Sys2Proof.Tests

set_option Elab.async false

open Sys2Proof.Machine

/-! ### Small states -/

/-- The state an answer goes on in. -/
def after : Answer → State
  | .next t => t
  | .fault _ => State.reset
  | .refused _ => State.reset

/-- An answer goes on. -/
def goesOn : Answer → Bool
  | .next _ => true
  | .fault _ => false
  | .refused _ => false

/-- The part in HALTED after INIT. -/
def wHalted : State := { State.reset with resetAsserted := false, engine := .halted }

/-- A station in service with a max payload of 64. -/
def wStation : Station :=
  { Station.reset with
    state := .active, identity := some { type := 1, revision := 2, serial := 3, maxPayload := 64 } }

/-- A slot due in every cycle, 2 bytes out at 16 and 2 in at 32. -/
def wSlot : Slot :=
  { Slot.reset with
    enable := true, station := 3, outOffset := 16, outLength := 2, inOffset := 32, inCapacity := 2, rate := 1 }

/-- The part in RUNNING on a quiet line, cycle 5 at clock 200, with station 3 in service and slot 0 next. -/
def wRun : State :=
  State.setStation
    { wHalted with
      engine := .running
      line := { LineUnit.reset with idleRun := 24 }
      cycle := { CycleUnit.reset with clock := 200, number := 5, phase := .cyclic, walk := some 0 }
      schedule := { Schedule.reset with page0 := (Vector.replicate 32 Slot.reset).set 0 wSlot } }
    3 wStation

/-- The same in OPEN with a selection owed. -/
def wOpen : State := { wRun with cycle := { wRun.cycle with phase := .opened, walk := none, owed := true } }

/-- A record of ring U for station 3. -/
def wRecord : RingRecord := recordOfWords 0 0x00020003 0x100 0x200 2

/-- The record with its out data read in. -/
def wLoaded : RingRecord := { wRecord with outData := [1, 2] }

/-- An active ring of length 4. -/
def wRing : RingUnit := { RingUnit.reset with state := .active }

/-- An exchange for slot 0. -/
def wSlotTry : Exchange :=
  { Exchange.enter (.slot 0) 3 with inCapacity := 2, tries := 1, window := 64, expiry := some 64 }

/-- An exchange for the record of ring U, with a retry left. -/
def wRingTry : Exchange :=
  { wLoaded.exchange .u with retryLimit := 1, tries := 1, window := 64, expiry := some 64 }

/-- The same with no try left. -/
def wLastTry : Exchange := { wRingTry with retryLimit := 0 }

/-- The same after a RING_RESET. -/
def wOrphan : Exchange := { wRingTry with orphaned := true }

/-- A transmission of a try. -/
def wTx : Transmission := { user := .attempt, frame := [1, 2], sent := 3 }

/-- A mark in transmission. -/
def wMarkTx : Transmission := { user := .mark, frame := [1, 2], sent := 3 }

/-- `wRun` with an exchange in the context and the line as given. -/
def wWith (e : Exchange) (state : TryState) (tx : Option Transmission) (cell : Option Nat) : State :=
  { wRun with
    context := some { e with state := state }
    ringU := { wRing with stage := .inExchange, current := some wLoaded }
    line := { wRun.line with tx := tx, cell := cell } }

/-- A state in STOPPING. -/
def wStopping (s : State) : State := { s with engine := .stopping }

/-- A mark wanted, and nothing in its way. -/
def wWant (cause : WantCause) (age : Nat) : State :=
  { wRun with cycle := { wRun.cycle with want := some { cause := cause, age := age } } }

/-- A queue with no room, its overflow count at the greatest. -/
def wFullQueue : CompletionQueue := { entries := List.replicate 32 (Entry.blank .slot 3 1), overflow := 255 }

/-! ### Well-formedness -/

theorem test_wellFormed_refuses_known_code : (Instr.commandCodeUnknown 13 0).wellFormed = false := by decide
theorem test_wellFormed_takes_unknown_code : (Instr.commandCodeUnknown 14 0).wellFormed = true := by decide
theorem test_wellFormed_refuses_wide_narrow_write :
    (Instr.narrowWrite 4 0xF 0).wellFormed = false := by decide
theorem test_wellFormed_takes_narrow_write : (Instr.narrowWrite 4 0x7 0).wellFormed = true := by decide
theorem test_wellFormed_refuses_ignored_write_of_a_register :
    (Instr.ignoredRegisterWrite 0x1C 0).wellFormed = false := by decide
theorem test_wellFormed_takes_ignored_write_of_a_read_only_register :
    (Instr.ignoredRegisterWrite 0x30 0).wellFormed = true := by decide
theorem test_exec_refuses_ill_formed_code :
    exec (.commandCodeUnknown 13 0) wHalted = .refused (.illFormed "COMMAND_CODE_UNKNOWN") := rfl
theorem test_exec_refuses_ill_formed_narrow_write :
    exec (.narrowWrite 4 0xF 0) wHalted = .refused (.illFormed "NARROW_WRITE") := rfl
theorem test_exec_refuses_ill_formed_ignored_write :
    exec (.ignoredRegisterWrite 0x1C 0) wHalted = .refused (.illFormed "IGNORED_REGISTER_WRITE") := rfl

/-! ### Host writes by offset (R178, R194) -/

theorem test_hostWrite_command : hostWrite 0x04 0xF 0x0106 = .admitStation 1 := by decide
theorem test_hostWrite_unknown_command : hostWrite 0x07 0xF 0x2A0E = .commandCodeUnknown 14 0x2A := by decide
theorem test_hostWrite_narrow : hostWrite 0x1C 0x3 7 = .narrowWrite 0x1C 0x3 7 := by decide
theorem test_hostWrite_post_n : hostWrite 0x9C 0xF 3 = .post .n 3 := by decide
theorem test_hostWrite_read_only : hostWrite 0x30 0xF 3 = .ignoredRegisterWrite 0x30 3 := by decide

/-! ### The layouts, written out from the tables and examples of the spec -/

/-- The reference value of R5. -/
theorem test_crc_reference_value :
    crcOf [0x31, 0x32, 0x33, 0x34, 0x35, 0x36, 0x37, 0x38, 0x39] = 0x29B1 := by decide +kernel
/-- Byte 1 of a mark by the layout of R196, kind 0 in bits 7..6 and address 63 in bits 5..0 (log entry 23). -/
theorem test_mark_frame :
    (markFrame 300 .one).take 7 = [0x96, 0x3F, 0x00, 0x03, 0x2C, 0x01, 0x01] := by decide +kernel
/-- The request of the illustration under R196. -/
theorem test_request_frame :
    (requestFrame 5 3 false 2 [0, 0, 0, 0, 0, 0, 0, 0]).take 4 = [0x96, 0x45, 0x23, 0x08] := by
  decide +kernel
/-- The same request sent STALE: no payload, 6 bytes in all (R7). -/
theorem test_stale_frame :
    (requestFrame 5 3 true 2 [0, 0, 0, 0, 0, 0, 0, 0]).take 4 = [0x96, 0x45, 0x2B, 0x00]
      ∧ (requestFrame 5 3 true 2 [0, 0, 0, 0, 0, 0, 0, 0]).length = 6 := by decide +kernel
/-- The roll call of the illustration under R196. -/
theorem test_roll_frame : (rollFrame 17).take 4 = [0x96, 0xD1, 0x00, 0x00] := by decide +kernel
/-- Word 4 of 12_worked_sequences.md: OK, reply length 2, tries 1, cycle 3. -/
theorem test_status_word4 : statusWord4 .ok 2 1 false 3 = 0x00032080 := by decide +kernel
/-- Words 4 and 5 of the record under R197: three tries, REISSUED, cycle 513, causes 0x105, condition 1. -/
theorem test_status_words_reissued :
    statusWord4 .ok 4 3 true 513 = 0x0201C100 ∧ statusWord5 0x105 1 = 0x00010105 := by decide +kernel
/-- The STATION entry under R198: station 12 joined, DUPLICATE, cycle 41. -/
theorem test_station_entry_words :
    ({ Entry.blank .station 1 41 with station := 12, duplicate := true }).head0 = 0x0000C20C
      ∧ ({ Entry.blank .station 1 41 with station := 12, duplicate := true }).head1 = 0x29 := by decide +kernel
/-- The ALERT entry under R198: code 2, ring N, station 4, record 3, cycle 120, NO_REPLY. -/
theorem test_alert_entry_words :
    ({ Entry.blank .alert 2 120 with station := 4, index := 3, ring := .n, causes := 1 }).head0 = 0x000C4813
      ∧ ({ Entry.blank .alert 2 120 with station := 4, index := 3, ring := .n, causes := 1 }).head1
        = 0x00010078 := by decide +kernel
/-- The reset value of STATION_CONFIG (R195). -/
theorem test_reset_station_config : Station.reset.configWord = 0x82FF0040 := by decide +kernel
/-- The budget of a request with 40 bytes out and 40 in to a station of window 64 (12_worked_sequences.md). -/
theorem test_budget : requestBudget 40 40 64 = 984 := by decide
/-- A record's address: base 0x00100000, record 5, word 4 at 0x001000B0 (12_worked_sequences.md). -/
theorem test_record_address :
    ({ RingUnit.reset with base := 0x00100000 }).recordAddress 5 + 16 = 0x001000B0 := by decide +kernel
/-- Bits of a cell: start 0, least significant data bit first, stop 1 (R1). -/
theorem test_cell_bits :
    cellBitsOf 0x96 = [false, false, true, true, false, true, false, false, true, true] := by decide +kernel

/-- The fourth bit of a frame's second cell is on the line: data bit 2 of 0x3F (R1). -/
theorem test_transmitData :
    let s := { State.reset with
      line := { LineUnit.reset with tx := some { user := .mark, frame := [0x96, 0x3F], sent := 10 * 1 + 3 } } }
    s.transmitEnable = true ∧ s.transmitData = some true ∧ 1 < ([0x96, 0x3F] : List Byte).length := by decide +kernel

/-! ### Single steps -/

/-- RESET_RELEASED leaves INIT to the clearing (R176). -/
theorem test_resetReleased : (after (exec .resetReleased State.reset)).engine = .init := by decide
/-- INIT_CLEARING_FINISHED while RESET is still asserted does nothing (R176). -/
theorem test_initClearingFinished_under_reset :
    (after (exec .initClearingFinished State.reset)).engine = .init := by decide
/-- A write of 5 to LINE_CONFIG stores 3 and sets WRITE_CLAMPED (R192). -/
theorem test_lineConfigWrite_clamps :
    (after (exec (.lineConfigWrite 5) wHalted)).settings.bitRate = 3
      ∧ (after (exec (.lineConfigWrite 5) wHalted)).host.windowStatus = 2 := by decide +kernel
/-- A write of CYCLE_PERIOD outside HALTED is refused (R191). -/
theorem test_cyclePeriodWrite_refused :
    (after (exec (.cyclePeriodWrite 5000) wRun)).settings.period = 10000
      ∧ (after (exec (.cyclePeriodWrite 5000) wRun)).host.windowStatus = 1 := by decide +kernel
/-- EXMEM_ADDR wraps to 0 after the last word (R108). -/
theorem test_exmemDataWrite_wraps :
    (after (exec (.exmemDataWrite 0x04030201) { wHalted with exmemAddr := 4092 })).exmemAddr = 0
      ∧ (after (exec (.exmemDataWrite 0x04030201) { wHalted with exmemAddr := 4092 })).exmem
        = [(4092, 1), (4093, 2), (4094, 3), (4095, 4)] := by decide +kernel
/-- A word that is all 0 leaves no cell listed. -/
theorem test_exmemDataWrite_canonical :
    (after (exec (.exmemDataWrite 0) { wHalted with exmem := [(0, 7), (9, 1)] })).exmem = [(9, 1)] := by
  decide +kernel
/-- The read of EXMEM_DATA hands over the word, least significant byte first (R108). -/
theorem test_exmemDataRead :
    (after (exec .exmemDataRead { wHalted with exmem := [(0, 7), (3, 1)] })).host.readData = 0x01000007 := by
  decide +kernel
/-- STATION_SELECT clamps 0 to 1 (R86). -/
theorem test_stationSelectWrite_clamps :
    (after (exec (.stationSelectWrite 0) wHalted)).stationSelect = 1 := by decide +kernel
/-- The fourth report mode stores ALWAYS with WRITE_CLAMPED (R89). -/
theorem test_slotRegisterWrite_report :
    ((after (exec (.slotRegisterWrite .station 0x30000000) wHalted)).schedule.page1[0]).report = .always
      ∧ (after (exec (.slotRegisterWrite .station 0x30000000) wHalted)).host.windowStatus = 2 := by
  decide +kernel
/-- POST of more than the ring has room for sets POST_REFUSED and counts nothing (R116). -/
theorem test_post_refused :
    (after (exec (.post .u 5) { wHalted with ringU := wRing })).ringU = { wRing with postRefused := true } := by
  decide +kernel
/-- POST issues the RECORD_READ of the record at head (R118). -/
theorem test_post_fetches :
    (after (exec (.post .u 2) { wHalted with ringU := { wRing with head := 3 } })).requests.map (·.address)
      = [96] := by decide +kernel
/-- RING_ENABLE of a length of 257 shows its low 8 bits as the index (R131). -/
theorem test_ringEnable_length :
    (after (exec (.ringEnable 0) { wHalted with ringU := { RingUnit.reset with length := 257 } })).host.commandStatus
      = { code := 10, arg := 0, decision := .refusedInvalid, detail := 0, index := 1 } := by decide +kernel
/-- START with an empty schedule is DONE and the mark is wanted (R180). -/
theorem test_start :
    (after (exec (.start 0) wHalted)).engine = .starting
      ∧ (after (exec (.start 0) wHalted)).cycle.want = some { cause := .first, age := 0 } := by decide +kernel
/-- SWAP in HALTED is applied at once, with its entry for page 1 (R98). -/
theorem test_swap :
    (after (exec (.swap 0) wHalted)).schedule.active = .one
      ∧ (after (exec (.swap 0) wHalted)).queue.entries.map Entry.head0 = [0x00040006] := by decide +kernel
/-- The mark's number follows 0xFFFF with 0 (R24). -/
theorem test_markBegin_number_wraps :
    (after (exec .markBegin { wWant .first 0 with
      cycle := { (wWant .first 0).cycle with number := 0xFFFF } })).cycle.number = 0 := by decide +kernel
/-- A slot's request takes the next tag, and the tag moves on modulo 8 (R50). -/
theorem test_slotOpportunity_tag_wraps :
    ((after (exec .slotOpportunity (wRun.setStation 3 { wStation with nextTag := 7 }))).station 3).nextTag = 0 := by
  decide +kernel
/-- A fourth cut in a row of a mark is the line fault (R13, R186). -/
theorem test_echoMismatch_fourth_cut :
    (after (exec .echoMismatch { wRun with
      line := { wRun.line with tx := some wMarkTx, streak := 3 } })).engine = .lineFault := by decide +kernel
/-- ADMIT is refused for a station that is ACTIVE, with its state code (R80, R81). -/
theorem test_admit_refused :
    (after (exec (.admitStation 3) wRun)).host.commandStatus
      = { code := 6, arg := 3, decision := .refusedState, detail := 2, index := 0 } := by decide +kernel
/-- INT_PENDING is cleared by ones (R173). -/
theorem test_intPendingWrite :
    (after (exec (.intPendingWrite 0x05) { wHalted with
      host := { wHalted.host with intPending := 0x7F } })).host.intPending = 0x7A := by decide +kernel
/-- The waiting commands are taken first in, first out. -/
theorem test_step_takes_the_front :
    (after (step { wHalted with pending := [.holdMaskWrite 1, .holdMaskWrite 2] })).schedule.hold = 1
      ∧ (after (step { wHalted with pending := [.holdMaskWrite 1, .holdMaskWrite 2] })).pending
        = [.holdMaskWrite 2] := by decide +kernel
/-- With nothing waiting and nothing due, a bit time passes (log entry 1). -/
theorem test_step_idle :
    (after (step { wRun with cycle := { wRun.cycle with phase := .opened, walk := none } })).cycle.clock = 201 := by
  decide +kernel
/-- No table word spells a command, so placing one changes nothing (log entry 8). -/
theorem test_withFetchWord : State.reset.withFetchWord 32 0x01 = State.reset := rfl

/-! ### States that meet the hypotheses of the statements

Each theorem is named after the statement whose hypotheses its state meets, clause by clause. -/

theorem witness_CommandsNeitherReadNorChangeTheQueue :
    exec (.queuePop 0) wHalted = .next wHalted := rfl

theorem witness_RunsOverCommandsNeverStop :
    ({ wHalted with pending := [.queuePop 0, .commandCodeUnknown 14 0] } : State).wellFed
      ∧ (Instr.narrowWrite 0 0xF 0).wellFormed = false := by
  constructor
  · intro c hc
    simp only [List.mem_cons, List.not_mem_nil, or_false] at hc
    rcases hc with rfl | rfl <;> rfl
  · rfl

theorem witness_QueueStaysWithinItsBounds :
    ({ wWant .due 3 with queue := wFullQueue } : State).queueBounded
      ∧ goesOn (step { wWant .due 3 with queue := wFullQueue, pending := [.swap 0] }) = true := by
  decide +kernel

theorem witness_StreakFourOnlyInLineFault :
    ({ wRun with line := { wRun.line with tx := some wMarkTx, streak := 3 } } : State).streakBounded
      ∧ goesOn (step { wRun with
          line := { wRun.line with tx := some wMarkTx, streak := 3 }, pending := [.echoMismatch] }) = true := by
  decide +kernel

theorem witness_ExchangeMemoryStaysCanonical :
    ({ wHalted with exmem := [(0, 7), (4095, 1)], pending := [.exmemDataWrite 0] } : State).memoryCanonical
      ∧ goesOn (step { wHalted with exmem := [(0, 7), (4095, 1)], pending := [.exmemDataWrite 0] }) = true := by
  decide +kernel

theorem witness_RegistersAndStationsStayInRange :
    wRun.settings.inRange ∧ wRun.countsInRange ∧ wRun.stationsConsistent
      ∧ goesOn (step { wRun with pending := [.missLimitWrite 1] }) = true := by decide +kernel

/-- `wWant` is a state whose rings, requests and context agree. -/
theorem witness_ringsConsistent : (wWant .due 3).RingsConsistent := by
  refine ⟨⟨by decide, by decide, by decide, by decide, by decide, by decide, by decide, ?_, ?_, ?_⟩,
    ⟨by decide, by decide, by decide, by decide, by decide, by decide, by decide, ?_, ?_, ?_⟩,
    ⟨by decide, ?_, ?_, ?_⟩⟩
  all_goals first
    | (intro q hq; cases hq)
    | (constructor
       · intro h; cases h
       · rintro ⟨e, i, h, -⟩; cases h)

theorem witness_ContextRingsAndRequestsStayConsistent :
    (wWant .due 3).contextPlaced ∧ (wWant .due 3).RingsConsistent
      ∧ goesOn (step { wWant .due 3 with pending := [.markBegin] }) = true :=
  ⟨by decide +kernel, witness_ringsConsistent, by decide +kernel⟩

theorem witness_TransmissionsBeginOnlyWhenTheyMay :
    (wWant .due 3).contextPlaced ∧ (wWant .due 3).RingsConsistent
      ∧ goesOn (exec .markBegin (wWant .due 3)) = true ∧ (wWant .due 3).line.tx = none
      ∧ (after (exec .markBegin (wWant .due 3))).line.tx.isSome = true :=
  ⟨by decide +kernel, witness_ringsConsistent, by decide +kernel, by decide +kernel, by decide +kernel⟩

theorem witness_ActivePageChangesOnlyBySwap :
    goesOn (exec (.swap 0) wHalted) = true ∧ goesOn (exec (.holdMaskWrite 1) wRun) = true := by decide +kernel

theorem witness_EntriesToHaltedAndLineFaultRaiseTheirFlags :
    (after (exec (.stop 0) { wRun with engine := .starting })).engine = .halted
      ∧ (after (exec .quietWaitLimit (wWant .due 3))).engine = .lineFault := by decide +kernel

theorem witness_HardwareResetAndInit :
    (State.reset.engine = .init ∧ State.reset.resetAsserted = true)
      ∧ ({ State.reset with resetAsserted := false } : State).engine = .init := by decide

theorem witness_InitIgnoresTheHost :
    hostCommand (.stop 0) = true ∧ (Instr.stop 0).wellFormed = true ∧ State.reset.engine = .init := by decide

theorem witness_StartBitAndLineQuiet :
    wRun.engine ≠ .init ∧ wRun.line.tx = none ∧ wRun.line.cell = none ∧ wRun.line.rest ≠ .heldAfterBadCell
      ∧ wRun.line.rx.state ≠ .inFrame
      ∧ ({ wRun with line := { wRun.line with cell := some 4 } } : State).line.cell = some 4 := by decide

/-- Time on a line that sends, takes a cell, rests and is held; an idle step with an event due, with none, and at a
cell's end. -/
theorem witness_StartBitAndLineQuiet_time :
    let line (l : LineUnit) : State := { wRun with line := l }
    let cell := line { wRun.line with idleRun := 0, cell := some 4 }
    (0 < 7 ∧ wRun.engine ≠ .init ∧ wRun.pending = [])
      ∧ (line { wRun.line with tx := some { user := .mark, frame := [0x96], sent := 0 } }).line.tx.isSome = true
      ∧ (wRun.line.rest = .resting ∧ wRun.line.tx = none ∧ wRun.line.cell = none)
      ∧ (line { wRun.line with rest := .heldAfterCut }).line.rest ≠ .resting
      ∧ (line { wRun.line with tx := some { user := .mark, frame := [0x96], sent := 10 } }).dueEvent
        = some .transmissionComplete
      ∧ (cell.dueEvent = none ∧ cell.line.cell = some 4)
      ∧ ({ wRun.line with cell := some 10 } : LineUnit).cell = some 10 := by decide +kernel

/-- Seven bit times on a line at rest and on a cell in progress, and one on the idle step (R3). -/
theorem test_elapse :
    (({ wRun with line := { wRun.line with idleRun := 20 } } : State).elapse 7).line.idleRun = 24
      ∧ (({ wRun with line := { wRun.line with cell := some 2 } } : State).elapse 7).line.cell = some 9
      ∧ (after (step { wRun with line := { wRun.line with idleRun := 0, cell := some 2 } })).line.cell = some 3 := by decide +kernel

/-- A frame under reception, with no cell of it in progress. -/
def wGap (context : Option Exchange) : State :=
  { wRun with
    context := context
    line := { wRun.line with idleRun := 20, rx := { Receiver.reset with state := .inFrame } } }

theorem witness_GapLimitAbandonsTheFrame :
    (wGap none).gapRuns = true ∧ (wGap none).context = none
      ∧ (wGap (some { wRingTry with state := .receiving })).gapRuns = true ∧ wRingTry.source = .ring .u 0
      ∧ wRingTry.station ≠ 63 ∧ wRingTry.orphaned = false ∧ wRingTry.tries < 1 + wRingTry.retryLimit := by
  decide +kernel

/-- A frame under reception at its length byte, a cell of it in progress. -/
def wLength (context : Option Exchange) : State :=
  { wRun with
    context := context
    line := { wRun.line with cell := some 3, rx := { Receiver.reset with state := .inFrame, count := 2 } } }

theorem witness_GapLimitAbandonsTheFrame_cells :
    (∀ context, (wLength context).engine.delimits = true ∧ (wLength context).line.tx = none
      ∧ (wLength context).line.cell = some 3 ∧ (wLength context).line.rx.state = .inFrame
      ∧ (wLength context).line.rx.count = 2 ∧ (wLength context).context = context)
      ∧ 120 < (121 : Byte).toNat ∧ wRun.engine = .running := by
  refine ⟨fun context => ⟨rfl, rfl, rfl, rfl, rfl, rfl⟩, by decide, by decide⟩

/-- A length byte of 121 abandons the frame, one of 120 does not (R16). -/
theorem test_cellArrival_length_bound :
    (after (exec (.cellArrival (.good 121)) (wLength none))).line.rx.state = .abandoning
      ∧ (after (exec (.cellArrival (.good 120)) (wLength none))).line.rx.state = .inFrame := by decide +kernel

theorem witness_SyncByteStartsTheReply :
    let s := wWith wSlotTry .awaitingReply none (some 10)
    s.engine.delimits = true ∧ s.line.tx = none ∧ s.line.cell = some 10 ∧ s.line.rx.state = .idle
      ∧ s.context.map (·.state) = some .awaitingReply := by decide +kernel

/-- The window of a ring record's try with `left` bit times to go, in the middle of a cell. -/
def wHeld (left : Int) : State := wWith { wRingTry with expiry := some left } .awaitingReply none (some 4)

/-- A cell in ABANDONING, in HALTED and IN_FRAME at each count, with nothing awaited. -/
theorem witness_SyncByteStartsTheReply_cells :
    let line (l : LineUnit) : State := { wRun with line := l }
    let rx (state : RxState) (count : Nat) (length : Byte) : State := line { wRun.line with
      cell := some 4, rx := { Receiver.reset with state := state, count := count, length := length } }
    (wRun.engine ≠ .init ∧ wHalted.engine = .halted ∧ wRun.context = none)
      ∧ ((rx .abandoning 0 0).line.rx.state = .abandoning ∧ (rx .abandoning 0 0).line.cell = some 4
        ∧ (rx .abandoning 0 0).line.tx = none)
      ∧ ((rx .inFrame 0 0).line.rx.count = 0 ∧ (rx .inFrame 1 0).line.rx.count = 1)
      ∧ ((rx .inFrame 2 0).line.rx.count = 2 ∧ (120 : Byte).toNat ≤ 120)
      ∧ ((rx .inFrame 3 1).line.rx.count < 3 + (rx .inFrame 3 1).line.rx.length.toNat
        ∧ (rx .inFrame 3 0).line.rx.count = 3 + (rx .inFrame 3 0).line.rx.length.toNat)
      ∧ (line { wRun.line with rest := .heldAfterBadCell }).line.rest = .heldAfterBadCell
      ∧ (line { wRun.line with tx := some { user := .mark, frame := [0x96], sent := 0 } }).line.tx ≠ none := by
  decide +kernel

/-- A sync byte in ABANDONING, and in HALTED, starts no frame (R14, R19). -/
theorem test_cellArrival_ignored :
    let s : State := { wRun with
      line := { wRun.line with cell := some 4, rx := { Receiver.reset with state := .abandoning } } }
    (after (exec (.cellArrival (.good 0x96)) s)).line.rx.state = .abandoning
      ∧ (after (exec (.cellArrival (.good 0x96)) { wHalted with
        line := { wHalted.line with cell := some 4 } })).line.rx.state = .idle := by decide +kernel

theorem witness_SyncByteStartsTheReply_other_cells :
    (wHeld 6).engine.delimits = true ∧ (wHeld 6).line.tx = none ∧ (wHeld 6).line.cell = some 4
      ∧ (wHeld 6).line.rx.state = .idle ∧ ((10 - 4 : Nat) : Int) ≤ 6 ∧ (5 : Int) < ((10 - 4 : Nat) : Int)
      ∧ Cell.good 0x95 ≠ .good 0x96 ∧ (wHeld 5).engine = .running
      ∧ (wHeld 5).context.map (fun e => (e.source, e.station, e.orphaned, e.expiry))
          = some (.ring .u 0, 3, false, some 5) := by decide +kernel

/-- An expiry one bit time before the cell's end is taken at its arrival; one at the end is left (log entry 28). -/
theorem test_cellArrival_held_expiry :
    (after (exec (.cellArrival .bad) (wHeld 5))).context.map (·.state) = some .ending
      ∧ (after (exec (.cellArrival .bad) (wHeld 6))).context.map (·.state) = some .awaitingReply := by
  decide +kernel

theorem witness_WholeFrameOutsideAnExchange :
    ([] : List Byte).length ≤ 120 ∧ (List.replicate 120 (0 : Byte)).length ≤ 120 ∧ wRun.engine.delimits = true
      ∧ wRun.line.tx = none ∧ wRun.line.cell = none ∧ wRun.line.rest ≠ .heldAfterBadCell
      ∧ wRun.line.rx.state = .idle ∧ wRun.context = none := by decide +kernel

/-- The same with a retry waiting in ENDING under a late watch; and a frame with other check bytes. -/
theorem witness_WholeFrameOutsideAnExchange_ending :
    let s := { wWith { wRingTry with expiry := none } .ending none none with lateWatch := some 3 }
    s.context = some { wRingTry with expiry := none, state := .ending } ∧ s.lateWatch = some 3 ∧ s.line.rx.state = .idle
      ∧ (frameBytes .reply 3 0 []).take (4 + ([] : List Byte).length) ++ [0, 0] ≠ frameBytes .reply 3 0 []
      ∧ (3 : Nat) < 6 + ([] : List Byte).length ∧ 120 < (121 : Byte).toNat := by decide +kernel

/-- A late frame received whole while a retry waits: LATE_REPLY is accounted when the check is good (R155). -/
theorem test_late_frame_in_ending :
    let s := { wWith { wRingTry with expiry := none } .ending none none with lateWatch := some 3 }
    let cells (l : List Byte) := after (runCommands (l.map fun b => .cellArrival (.good b)) s)
    (cells (frameBytes .reply 3 0 [])).queue.entries.map (fun e => (e.kind, e.code, e.late)) = [(.alert, 0, true)]
      ∧ (cells ((frameBytes .reply 3 0 []).take 4 ++ [0, 0])).queue.entries = []
      ∧ (cells (frameBytes .reply 3 0 [])).context.map (·.state) = some .ending := by decide +kernel

/-- A good reply of slot 0 with its last check byte on the line; `held` is HOLD_MASK. -/
def wReply (held : BitVec 32) : State :=
  let s := wWith wSlotTry .receiving none (some 3)
  { s with
    schedule := { s.schedule with hold := held }
    line := { s.line with
      rx := { state := .inFrame, count := 6, crc := 0x1234, addressKind := 0x83, control := 0, length := 2,
              staging := [9, 8], checkHigh := 0x12 } } }

theorem witness_GoodReplyFillsTheInArea :
    let s := wReply 0
    let f := s.line.rx.report true
    s.engine = .running ∧ s.line.tx = none ∧ s.line.cell = some 3 ∧ s.line.rx.state = .inFrame
      ∧ s.line.rx.count = 4 + s.line.rx.length.toNat ∧ s.line.rx.checkHigh ++ (0x34 : Byte) = s.line.rx.crc
      ∧ s.context = some { wSlotTry with state := .receiving } ∧ wSlotTry.source = .slot 0
      ∧ 1 ≤ wSlotTry.station.toNat ∧ wSlotTry.station.toNat ≤ 62 ∧ f.kind = .reply
      ∧ f.address = wSlotTry.station ∧ f.tag = wSlotTry.tag ∧ f.payload.length ≤ wSlotTry.inCapacity
      ∧ f.upper.toNat ≤ 1 ∧ s.exmem.wf = true
      ∧ (s.schedule.activePage[0]).inOffset.toNat + f.payload.length ≤ 4096 := by decide +kernel

/-- The same reply to the try of a ring record. -/
def wRingReply : State := { wReply 0 with context := some { wRingTry with state := .receiving } }

theorem witness_GoodReplyFillsTheInArea_ring :
    wRingTry.source = .ring .u 0 ∧ wRingTry.orphaned = false ∧ (wRingReply.ringUnit .u).current = some wLoaded
      ∧ wRingTry.station = 3 ∧ (wRingReply.line.rx.report true).tag = wRingTry.tag
      ∧ (wRingReply.line.rx.report true).payload.length ≤ wRingTry.inCapacity := by decide +kernel

/-- Good and faulty replies in STOPPING, and a good one to an orphaned try. -/
theorem witness_GoodReplyFillsTheInArea_stopping :
    (wStopping (wReply 0)).engine = .stopping ∧ (wStopping (wReply 0)).line.cell = some 3
      ∧ ((wStopping wRingReply).ringUnit .u).current = some wLoaded
      ∧ ({ wRingReply with context := some { wOrphan with state := .receiving } } : State).context.map
          (fun e => (e.source, e.orphaned, e.state)) = some (.ring .u 0, true, .receiving) := by decide +kernel

/-- A good reply in STOPPING halts the engine, the record's write-back issued (R126, R184). -/
theorem test_cellArrival_stopping :
    (after (exec (.cellArrival (.good 0x34)) (wStopping wRingReply))).engine = .halted
      ∧ (after (exec (.cellArrival (.good 0x34)) (wStopping wRingReply))).ringU.stage = .writingBack
      ∧ (after (exec (.cellArrival (.good 0x34)) (wStopping wRingReply))).cycle.owed = false := by decide +kernel

/-- A faulty reply on the line: a check byte of 0x35 makes `wRingReply` a CHECK, and each context the tries, the tag and
the capacity of its row. -/
theorem witness_FrameEndsAreJudgedInOrder_faulty :
    let f (b : Byte) := wRingReply.line.rx.report (decide (wRingReply.line.rx.checkHigh ++ b = wRingReply.line.rx.crc))
    wRingTry.judge (f 0x35) = .check ∧ wLastTry.judge (f 0x35) = .check
      ∧ ({ wRingTry with station := 4 }).judge (f 0x34) = .wrongSender
      ∧ ({ wRingTry with tag := 5 }).judge (f 0x34) = .tagMismatch
      ∧ ({ wRingTry with inCapacity := 1 }).judge (f 0x34) = .overlength
      ∧ wSlotTry.judge { f 0x34 with upper := 2 } = .refused
      ∧ wRingTry.tries < 1 + wRingTry.retryLimit ∧ 1 + wLastTry.retryLimit ≤ wLastTry.tries
      ∧ wOrphan.judge (f 0x35) = .check ∧ wOrphan.orphaned = true
      ∧ (wRingReply.ringUnit .u).current = some wLoaded := by decide +kernel

/-- The abandoned reply of a roll call, of a try with none left, of an orphaned one and of a slot's. -/
theorem witness_FrameEndsAreJudgedInOrder_abandoned :
    (∀ e : Exchange, (wGap (some { e with state := .receiving })).gapRuns = true
        ∧ (wGap (some e)).engine = .running ∧ (wGap (some e)).context = some e
        ∧ (wLength (some e)).line.cell = some 3 ∧ (wLength (some e)).line.rx.state = .inFrame
        ∧ (wLength (some e)).line.rx.count = 2)
      ∧ ({ wSlotTry with source := .rollCall }).source = .rollCall ∧ wLastTry.station ≠ 63
      ∧ 1 + wLastTry.retryLimit ≤ wLastTry.tries ∧ wOrphan.orphaned = true ∧ wSlotTry.source = .slot 0 := by
  refine ⟨fun e => ⟨rfl, rfl, rfl, rfl, rfl, rfl⟩, by decide, by decide, by decide, by decide, by decide⟩

/-- An abandoned reply to a roll call is a CLASH entry of the target (R60, R74). -/
theorem test_gapLimitExpiry_clash :
    (after (exec .gapLimitExpiry (wGap (some { wSlotTry with
      source := .rollCall, state := .receiving })))).queue.entries.map (fun e => (e.kind, e.code, e.station))
      = [(.station, 4, 3)] := by decide +kernel

/-- The record's write-back: the payload to its in buffer, then the status (R125, R126). -/
theorem test_cellArrival_write_back :
    (after (exec (.cellArrival (.good 0x34)) wRingReply)).requests.map (fun q => (q.kind, q.address, q.count))
      = [(.dataWrite, 0x200, 2), (.statusWrite, 16, 8)] := by decide +kernel

/-- The in-area takes the reply's payload, and with the hold flag set it does not (R103, R104). -/
theorem test_cellArrival_in_area :
    (after (exec (.cellArrival (.good 0x34)) (wReply 0))).exmem = [(32, 9), (33, 8)]
      ∧ (after (exec (.cellArrival (.good 0x34)) (wReply 1))).exmem = [] := by decide +kernel

theorem witness_EchoMismatchCutsAMark_stopping :
    let s := { wRun with
      engine := .stopping
      line := { wRun.line with tx := some wMarkTx, streak := 2 }
      cycle := { wRun.cycle with oldNumber := some 4 } }
    s.line.tx = some wMarkTx ∧ wMarkTx.user = .mark ∧ s.cycle.oldNumber = some 4 ∧ s.context = none
      ∧ s.line.streak < 3 ∧ s.engine = .stopping := by decide +kernel

theorem witness_EchoMismatchCutsAMark :
    let s := { wRun with
      line := { wRun.line with tx := some wMarkTx, streak := 2 }
      cycle := { wRun.cycle with oldNumber := some 4 } }
    s.line.tx = some wMarkTx ∧ wMarkTx.user = .mark ∧ s.cycle.oldNumber = some 4 ∧ s.context = none
      ∧ s.line.streak < 3 ∧ s.engine = .running
      ∧ 3 ≤ ({ s with line := { s.line with streak := 3 }, engine := .stopping } : State).line.streak := by
  decide +kernel

/-- A slot's try whose cut ends the exchange, at a miss limit of 1: the LOST, the ALERT and the SLOT entry stand in the
queue in this order (R57, R161). -/
theorem test_echoMismatch_entries_in_order :
    (after (exec .echoMismatch { wWith wSlotTry .transmitting (some wTx) none with
      settings := { wRun.settings with missLimit := 1 }
      schedule := { wRun.schedule with
        page0 := wRun.schedule.page0.set 0 { wSlot with report := .onFault } } })).queue.entries.map
        (fun e => (e.kind, e.code, e.index))
      = [(.station, 3, 0), (.alert, 1, 0), (.slot, 8, 0)] := by decide +kernel

/-- The cut of a try in STOPPING: of a ring record with a try left and with none, an orphan, a slot and a roll call. -/
theorem witness_EchoMismatchCutsATry_stopping :
    let s (e : Exchange) := wStopping (wWith e .transmitting (some wTx) none)
    (s wRingTry).engine = .stopping ∧ (s wRingTry).line.tx = some wTx ∧ (s wRingTry).line.streak < 3
      ∧ ((s wRingTry).ringUnit .u).current = some wLoaded ∧ wRingTry.tries < 1 + wRingTry.retryLimit
      ∧ 1 + wLastTry.retryLimit ≤ wLastTry.tries ∧ wOrphan.orphaned = true ∧ wSlotTry.station ≠ 63
      ∧ ((s { wSlotTry with source := .rollCall }).context.map (·.source) = some .rollCall) := by decide +kernel

/-- A try cut in STOPPING halts the engine within the event, its record back in staging; at the fourth cut it is the
line fault (R184, R186). -/
theorem test_echoMismatch_stopping :
    (after (exec .echoMismatch (wStopping (wWith wRingTry .transmitting (some wTx) none)))).engine = .halted
      ∧ (after (exec .echoMismatch (wStopping (wWith wRingTry .transmitting (some wTx) none)))).ringU.stage = .staged
      ∧ (after (exec .echoMismatch (wStopping { wWith wSlotTry .transmitting (some wTx) none with
          line := { wRun.line with tx := some wTx, streak := 3 } }))).engine = .lineFault := by decide +kernel

theorem witness_EchoMismatchCutsATry_ends :
    let s (e : Exchange) (streak : Nat) :=
      { wWith e .transmitting (some wTx) none with line := { wRun.line with tx := some wTx, streak := streak } }
    1 + wLastTry.retryLimit ≤ wLastTry.tries ∧ wLastTry.orphaned = false ∧ wOrphan.orphaned = true
      ∧ (s { wRingTry with station := 63 } 2).context.map (·.station) = some 63
      ∧ ((s wLastTry 2).ringUnit .u).current = some wLoaded ∧ (s wLastTry 2).line.streak < 3
      ∧ (s wSlotTry 3).context.map (·.source) = some (.slot 0) ∧ 3 ≤ (s wSlotTry 3).line.streak
      ∧ 3 ≤ (s wOrphan 3).line.streak ∧ (s { wSlotTry with source := .rollCall } 3).engine = .running
      ∧ (s { wSlotTry with source := .rollCall } 2).context.map (·.source) = some .rollCall := by decide +kernel

theorem witness_EchoMismatchCutsATry :
    let s := wWith wRingTry .transmitting (some wTx) none
    s.line.tx = some wTx ∧ wTx.user = .attempt ∧ s.engine = .running ∧ s.line.streak < 3
      ∧ s.context.map (·.source) = some (.ring .u 0) ∧ wRingTry.tries < 1 + wRingTry.retryLimit
      ∧ (wWith wSlotTry .transmitting (some wTx) none).context.map (·.source) = some (.slot 0) := by
  decide +kernel

theorem witness_TransmissionCompletes :
    let s := wWith wRingTry .transmitting (some wTx) none
    let b := wWith { wRingTry with station := 63 } .transmitting (some wTx) none
    let m := { wRun with line := { wRun.line with tx := some wMarkTx } }
    (s.line.tx = some wTx ∧ wTx.user = .attempt ∧ s.context.map (·.station) = some 3)
      ∧ (m.line.tx = some wMarkTx ∧ wMarkTx.user = .mark ∧ m.context = none ∧ m.engine = .running)
      ∧ ({ m with engine := .stopping } : State).engine = .stopping
      ∧ (b.line.tx = some wTx ∧ b.context.map (fun e => (e.source, e.station, e.orphaned))
          = some (.ring .u 0, 63, false) ∧ b.ringU.current = some wLoaded ∧ b.engine = .running) := by
  decide +kernel

/-- A broadcast in STOPPING, and an orphaned one. -/
theorem witness_TransmissionCompletes_broadcast :
    let b (e : Exchange) := wWith { e with station := 63 } .transmitting (some wTx) none
    (wStopping (b wRingTry)).engine = .stopping ∧ (wStopping (b wRingTry)).ringU.current = some wLoaded
      ∧ (b wOrphan).context.map (fun e => (e.source, e.station, e.orphaned)) = some (.ring .u 0, 63, true) := by
  decide +kernel

/-- `left` of the statement, for `wRun`: slot 0 alone. -/
theorem witness_MarkDueClosesTheWalk_left :
    ∀ i : Fin 32, decide (i = 0) = true ↔
      0 ≤ i ∧ (wRun.schedule.activePage[i]).enable = true ∧ (wRun.schedule.activePage[i]).rate ≠ 0
        ∧ wRun.cycle.number.toNat % (wRun.schedule.activePage[i]).rate.toNat
          = (wRun.schedule.activePage[i]).phase.toNat := by decide +kernel

theorem witness_MarkDueClosesTheWalk :
    wRun.dueRuns = true ∧ wRun.cycle.clock ≤ wRun.settings.period ∧ wRun.settings.period ≤ 2097151
      ∧ wRun.cycle.phase = .cyclic ∧ wRun.cycle.walk = some 0
      ∧ wOpen.dueRuns = true ∧ wOpen.cycle.phase ≠ .cyclic := by decide +kernel

theorem witness_MarkBeginOpensTheCycle :
    (wWant .due 3).markCanBegin = true ∧ (wWant .due 3).cycle.want = some { cause := .due, age := 3 }
      ∧ (wWant .due 3).schedule.swapPending = false
      ∧ ({ wWant .due 0 with
          schedule := { wRun.schedule with swapPending := true } } : State).markCanBegin = true := by
  decide +kernel

theorem witness_QuietWaitLimitIsALineFault :
    (wWant .first 10000).engine = .running ∧ (wWant .first 10000).cycle.want = some { cause := .first, age := 10000 }
      ∧ (wWant .first 10000).context = none := by decide +kernel

/-- A mark wanted with an exchange in the context: of a slot, a ring record, an orphan and a roll call. -/
theorem witness_QuietWaitLimitIsALineFault_context :
    let s (e : Exchange) :=
      { wWith e .awaitingReply none none with cycle := { wRun.cycle with want := some { cause := .due, age := 9990 } } }
    (s wSlotTry).engine = .running ∧ (s wSlotTry).cycle.want = some { cause := .due, age := 9990 }
      ∧ 10 = (s wSlotTry).settings.period - 9990 ∧ wSlotTry.source = .slot 0
      ∧ ((s wRingTry).ringUnit .u).current = some wLoaded ∧ wRingTry.orphaned = false ∧ wOrphan.orphaned = true
      ∧ (s { wSlotTry with source := .rollCall }).context.map (·.source) = some .rollCall := by decide +kernel

/-- The exchange's ALERT and SLOT entries stand before the LINE_FAULT entry (R62, R163). -/
theorem test_quietWaitLimit_entries_in_order :
    (after (exec .quietWaitLimit { wWith { wSlotTry with unaccounted := 1 } .awaitingReply none none with
      cycle := { wRun.cycle with want := some { cause := .due, age := 9990 } }
      schedule := { wRun.schedule with
        page0 := wRun.schedule.page0.set 0 { wSlot with report := .onFault } } })).queue.entries.map (·.kind)
      = [.alert, .slot, .lineFault] := by decide +kernel

/-- `wRun` with the record of station 3 as given. -/
def wSlotState (r : Station) : State := wRun.setStation 3 r

theorem witness_SlotCompletesWithoutBusTime :
    wRun.slotCanRun = true ∧ wRun.cycle.walk = some 0 ∧ wRun.dueSlotFrom 0 = some 0
      ∧ wRun.schedule.activePage[0] = wSlot
      ∧ ((wSlotState { wStation with state := .lost }).station 3).state = .lost
      ∧ ((wSlotState { wStation with state := .barred }).station 3).state ∈ [.absent, .joining, .barred]
      ∧ (((wSlotState { wStation with
            identity := some { type := 1, revision := 2, serial := 3, maxPayload := 1 } }).station 3).state = .active
          ∧ ((wSlotState { wStation with
            identity := some { type := 1, revision := 2, serial := 3, maxPayload := 1 } }).station 3).maxPayload < 2)
      ∧ (2 ≤ (wRun.station 3).maxPayload
          ∧ ({ wRun with cycle := { wRun.cycle with clock := 9745 } } : State).settings.period
            < 9745 + (10 * (12 + 2 + 2) + (wRun.station 3).window) + wRun.settings.guard) := by decide +kernel

theorem witness_SlotTryBegins :
    wRun.slotCanRun = true ∧ wRun.cycle.walk = some 0 ∧ wRun.dueSlotFrom 0 = some 0
      ∧ wRun.schedule.activePage[0] = wSlot ∧ wRun.schedule.held 0 = false
      ∧ (wRun.station 3).state ∈ [.active, .suspect] ∧ (wRun.exmem.bytesAt 16 2).length ≤ (wRun.station 3).maxPayload
      ∧ wRun.cycle.clock + (10 * (12 + 2 + 2) + (wRun.station 3).window) + wRun.settings.guard
          ≤ wRun.settings.period := by decide +kernel

/-- `wOpen` with a staged record on each ring, at a clock. -/
def wStaged (u : RingRecord) (n : RingRecord) (clock : Nat) : State :=
  { wOpen with
    ringU := { wRing with stage := .staged, current := some u }
    ringN := { wRing with stage := .staged, current := some n }
    cycle := { wOpen.cycle with clock := clock } }

/-- The record with a capacity of 100 bytes: a longer budget than `wLoaded`. -/
def wLong : RingRecord := { wLoaded with inCapacity := 100 }

theorem witness_OpenPhaseChoiceTakesTheRingsInOrder :
    ((wStaged wLoaded wLoaded 200).selectionCanRun = true ∧ (wStaged wLoaded wLoaded 200).fitsNow wLoaded)
      ∧ ((wStaged wLong wLoaded 9700).selectionCanRun = true
        ∧ (wStaged wLong wLoaded 9700).recordVerdict wLong = none
        ∧ ¬(wStaged wLong wLoaded 9700).fitsNow wLong ∧ (wStaged wLong wLoaded 9700).fitsNow wLoaded)
      ∧ (wStaged { wLoaded with station := 4 } wLoaded 200).recordVerdict { wLoaded with station := 4 }
          = some .notActive
      ∧ (wStaged { wLoaded with station := 4 } wLoaded 200).fitsNow wLoaded
      ∧ (({ wStaged wLoaded wLoaded 200 with ringU := wRing } : State).selectionCanRun = true
        ∧ ({ wStaged wLoaded wLoaded 200 with ringU := wRing } : State).ringU.stage ≠ .staged
        ∧ ({ wStaged wLoaded wLoaded 200 with ringU := wRing } : State).fitsNow wLoaded) := by
  unfold State.fitsNow
  decide +kernel

/-- A staged record that passes its tests and does not fit. -/
theorem witness_stagedDoesNotFit : ∀ r, (wStaged wLong wLong 9700).stagedDoesNotFit r := by
  have h : ¬(wStaged wLong wLong 9700).fitsNow wLong := by
    unfold State.fitsNow
    decide +kernel
  intro r
  cases r <;> exact .inr ⟨wLong, rfl, by decide +kernel, h⟩

theorem witness_OpenPhaseChoiceTakesTheRingsInOrder_nothing :
    (∀ r, (wStaged wLong wLong 9700).stagedDoesNotFit r) ∧ (wStaged wLong wLong 9700).selectionCanRun = true
      ∧ (wStaged wLong wLong 9700).settings.rollEnable = false :=
  ⟨witness_stagedDoesNotFit, by decide +kernel, by decide +kernel⟩

/-- A record of a station that is ABSENT. -/
def wNoStation : RingRecord := { wLoaded with station := 4 }

/-- Both rings' records completed by their tests, or one of them with the other's not fitting. -/
theorem witness_offersChooseNothing :
    (wStaged wNoStation wNoStation 200).offersChooseNothing (fun _ => some (wNoStation, .notActive))
      ∧ (wStaged wLong wNoStation 9700).offersChooseNothing
          (fun r => if r = .n then some (wNoStation, .notActive) else none)
      ∧ (wStaged wNoStation wNoStation 200).selectionCanRun = true
      ∧ (wStaged wNoStation wNoStation 200).settings.rollEnable = false := by
  refine ⟨fun r => ⟨by simp, fun record result h => ?_⟩, fun r => ?_, by decide +kernel, by decide +kernel⟩
  · obtain ⟨rfl, rfl⟩ := Prod.mk.inj (Option.some.inj h)
    cases r <;> exact ⟨rfl, rfl, by decide +kernel⟩
  · cases r
    · refine ⟨fun _ => .inr ⟨wLong, rfl, by decide +kernel, ?_⟩, by simp⟩
      unfold State.fitsNow
      decide +kernel
    · refine ⟨by simp, fun record result h => ?_⟩
      obtain ⟨rfl, rfl⟩ := Prod.mk.inj (Option.some.inj h)
      exact ⟨rfl, rfl, by decide +kernel⟩

/-- The fresh tag, the record's own tag, and the tag of a record that comes back after another exchange (R50, R51). -/
theorem test_owedSelection_tags :
    let go (next : BitVec 3) (u : RingRecord) :=
      (after (exec .owedSelection ((wStaged u wLoaded 200).setStation 3 { wStation with nextTag := next }))).context.map
        fun e => (e.tag, e.reissued)
    go 7 wLoaded = some (7, false) ∧ go 5 { wLoaded with tries := 1, tag := 4 } = some (4, false)
      ∧ go 6 { wLoaded with tries := 1, tag := 4 } = some (6, true) := by decide +kernel

/-- A request queue with a begun request in front, and one with none: the two clauses of State.issuesBehind. -/
theorem witness_issuesBehind :
    let busy := [{ Request.fresh .dataRead .n 0 0x100 4 [] with begun := true }]
    let s : State := { wStaged wNoStation wLoaded 200 with requests := busy }
    (s.selectionCanRun = true ∧ s.recordVerdict wNoStation = some .notActive
        ∧ (after (exec .owedSelection s)).requests = busy ++ [s.statusWriteRequest .u wNoStation])
      ∧ (wStaged wNoStation wLoaded 200).requests = []
      ∧ (after (exec .owedSelection (wStaged wNoStation wLoaded 200))).requests.map
          (fun q => (q.kind, q.begun, q.data.length)) = [(.statusWrite, true, 8)] := by decide +kernel

/-- Both rings' records completed in one selection: each ring's STATUS_WRITE is issued, in either order (R35, R126,
R136; log entry 30). -/
theorem test_owedSelection_both_completed :
    (after (exec .owedSelection (wStaged wNoStation wNoStation 200))).requests.map (fun q => (q.kind, q.ring))
      ∈ [[(.statusWrite, .u), (.statusWrite, .n)], [(.statusWrite, .n), (.statusWrite, .u)]] := by
  obtain ⟨first, h⟩ := State.select_both (s := wStaged wNoStation wNoStation 200)
    (by intro r; cases r <;> decide +kernel)
  have ready : (wStaged wNoStation wNoStation 200).selectionCanRun = true := by decide +kernel
  simp only [exec, execOwedSelection, ready, if_true, h]
  cases first <;> decide +kernel

/-- The second ring's record is chosen when the first's does not fit, or is completed by its tests (R34). -/
theorem test_owedSelection_second_ring :
    (after (exec .owedSelection (wStaged wLong wLoaded 9700))).context.map (·.source) = some (.ring .n 0)
      ∧ (after (exec .owedSelection (wStaged { wLoaded with station := 4 } wLoaded 200))).context.map (·.source)
        = some (.ring .n 0) := by decide +kernel

/-- `wOpen` with roll calls on; no station or every station but 62 has its search flag set. -/
def wRoll (search : Bool) : State :=
  { wOpen with
    settings := { wOpen.settings with rollEnable := true }
    cycle := { wOpen.cycle with rollPointer := 62 }
    stations := Vector.replicate 62 { Station.reset with search := search } }

theorem witness_RollCallFindsTheNextTarget :
    (wRoll true).selectionCanRun = true ∧ (wRoll true).ringU.stage ≠ .staged ∧ (wRoll true).ringN.stage ≠ .staged
      ∧ (wRoll true).settings.rollEnable = true ∧ (wRoll true).cycle.rollDone = false
      ∧ (wRoll true).cycle.number.toNat % (wRoll true).settings.rollInterval = 0
      ∧ (wRoll true).cycle.clock + (210 + (wRoll true).settings.rollWindow) + (wRoll true).settings.guard
          ≤ (wRoll true).settings.period
      ∧ (wRoll true).cycle.rollPointer.toNat = 62
      ∧ ((wRoll true).station 62).search = true ∧ ((wRoll true).station 62).state ∈ [.absent, .lost]
      ∧ (∀ k : Fin 62, ((wRoll false).station (BitVec.ofNat 6 ((62 - 1 + k.val) % 62 + 1))).search = false) := by
  decide +kernel

/-- `wRoll` meets the statement's condition on the staged records. -/
theorem witness_RollCallFindsTheNextTarget_rings : ∀ r, (wRoll true).stagedDoesNotFit r := by
  intro r
  exact .inl (by cases r <;> decide +kernel)

/-- With no target the selection only sets the roll-call-done flag (R37). -/
theorem test_owedSelection_no_target :
    (after (exec .owedSelection (wRoll false))).cycle.rollDone = true
      ∧ (after (exec .owedSelection (wRoll false))).context = none := by decide +kernel

/-- The reply to a roll call of station 3 with its last check byte on the line; the record of station 3, and its
payload, as given. -/
def wRollReply (record : Station) (payload : List Byte) : State :=
  { wRun with
    context := some { Exchange.enter .rollCall 3 with tries := 1, window := 64, state := .receiving }
    stations := wRun.stations.set 2 record
    line := { wRun.line with
      cell := some 3
      rx := { state := .inFrame, count := 4 + payload.length, crc := 0x1234, addressKind := 0xC3, control := 0,
              length := BitVec.ofNat 8 payload.length, staging := payload, checkHigh := 0x12 } } }

/-- Type 0x0201, revision 0x0403, serial 0x08070605, greatest payload 200. -/
def wIdentity : List Byte := [1, 2, 3, 4, 5, 6, 7, 8, 200]

/-- A station that went LOST with that serial. -/
def wLost : Station :=
  { wStation with
    state := .lost, identity := some { type := 1, revision := 1, serial := 0x08070605, maxPayload := 8 } }

theorem witness_FrameEndsAreJudgedInOrder :
    let s := wRollReply Station.reset wIdentity
    let f := s.line.rx.report (decide (s.line.rx.checkHigh ++ (0x34 : Byte) = s.line.rx.crc))
    s.engine = .running ∧ s.line.tx = none ∧ s.line.cell = some 3 ∧ s.line.rx.state = .inFrame
      ∧ s.line.rx.count = 4 + s.line.rx.length.toNat
      ∧ s.context.map (fun e => (e.source, e.station, e.state)) = some (.rollCall, 3, .receiving)
      ∧ f.good = true ∧ f.kind = .roll ∧ f.address = 3 ∧ f.payload = wIdentity
      ∧ (s.station 3).state = .absent ∧ ((wRollReply wLost wIdentity).station 3).state = .lost
      ∧ ((wRollReply wLost wIdentity).station 3).identity.map (·.serial) = some 0x08070605
      ∧ ((wRollReply wStation wIdentity).station 3).state = .active := by decide +kernel

/-- An ABSENT station joins with its identity, the greatest payload cut to 120 (R67, R69). -/
theorem test_cellArrival_join :
    ((after (exec (.cellArrival (.good 0x34)) (wRollReply Station.reset wIdentity))).station 3).identity
      = some { type := 0x0201, revision := 0x0403, serial := 0x08070605, maxPayload := 120 } := by decide +kernel
/-- A LOST station of the same serial rejoins, and a reply of 8 bytes is a clash (R71, R74). -/
theorem test_cellArrival_rejoin_and_clash :
    ((after (exec (.cellArrival (.good 0x34)) (wRollReply wLost wIdentity))).station 3).state = .active
      ∧ (after (exec (.cellArrival (.good 0x34)) (wRollReply wLost (wIdentity.take 8)))).queue.entries.map
          (fun e => (e.kind, e.code)) = [(.station, 4)] := by decide +kernel

theorem witness_WindowExpiryIsNoReply :
    let s (e : Exchange) := wWith e .awaitingReply none none
    (s wRingTry).windowLeft? = some 64 ∧ (s wSlotTry).windowLeft? = some 64
      ∧ (s { wSlotTry with source := .rollCall }).windowLeft? = some 64
      ∧ (s wRingTry).engine = .running ∧ (s wRingTry).line.tx = none ∧ wSlotTry.answered = false
      ∧ ((s wSlotTry).station 3).state ∈ [.active, .suspect]
      ∧ ((s wSlotTry).station 3).missCount + 1 < (s wSlotTry).settings.missLimit
      ∧ ((s wSlotTry).setStation 3 { wStation with state := .suspect, missCount := 2 }).settings.missLimit
          ≤ (((s wSlotTry).setStation 3 { wStation with state := .suspect, missCount := 2 }).station 3).missCount + 1 := by
  decide +kernel

theorem witness_WindowExpiryIsNoReply_ends :
    let s (e : Exchange) := wWith e .awaitingReply none none
    (s wLastTry).windowLeft? = some 64 ∧ ((s wLastTry).ringUnit .u).current = some wLoaded
      ∧ 1 + wLastTry.retryLimit ≤ wLastTry.tries ∧ (s wOrphan).windowLeft? = some 64 ∧ wOrphan.orphaned = true
      ∧ ({ s wSlotTry with engine := .stopping } : State).windowLeft? = some 64
      ∧ ({ s wRingTry with engine := .stopping } : State).windowLeft? = some 64 := by decide +kernel

/-- An expiry held by a cell, in RUNNING and STOPPING. -/
theorem witness_WindowExpiryIsNoReply_held :
    (wHeld 5).line.cell = some 4 ∧ (5 : Int) < ((10 - 4 : Nat) : Int) ∧ (wHeld 5).line.rx.state = .idle
      ∧ Cell.bad ≠ .good 0x96 ∧ (wHeld 5).context.map (fun e => (e.state, e.expiry)) = some (.awaitingReply, some 5)
      ∧ (wStopping (wHeld 5)).engine = .stopping ∧ (wStopping (wHeld 5)).line.tx = none := by decide +kernel

theorem witness_RetryBeginsOrReturnsToStaging :
    let s := wWith wRingTry .ending none none
    s.retryCanRun = true ∧ s.context.map (·.source) = some (.ring .u 0) ∧ 1 ≤ wRingTry.station.toNat
      ∧ wRingTry.station.toNat ≤ 62 ∧ 1 ≤ wRingTry.tries ∧ (s.ringUnit .u).current = some wLoaded
      ∧ s.engine = .running ∧ (s.station wRingTry.station).state ∈ [.active, .suspect]
      ∧ s.cycle.clock + (10 * (12 + wRingTry.outData.length + wRingTry.inCapacity) + (s.station 3).window)
          + s.settings.guard ≤ s.settings.period
      ∧ ({ s with engine := .stopping } : State).retryCanRun = true := by decide +kernel

/-- A request of ring U with `n` answers so far. -/
def wRequest (kind : RequestKind) (n : Nat) (words : List Word) : Request :=
  { Request.fresh kind .u 0 0x100 8 [1, 2, 3, 4, 5, 6, 7, 8] with begun := true, answered := n, words := words }

theorem witness_TransferAnswersRunThroughTheRequest :
    (wRequest .recordRead 0 []).begun = true ∧ 0 + 1 < (wRequest .recordRead 0 []).transfers.length
      ∧ (wRequest .statusWrite 0 []).data.length = 8 := by decide +kernel

theorem witness_TransferAnswersRunThroughTheRequest_port :
    let q := wRequest .recordRead 1 [0]
    ({ wRun with requests := [q] } : State).requests = [q] ∧ q.begun = true
      ∧ ({ wRun with requests := [q] } : State).portTransfer.map (·.address) = some 0x100 := by decide +kernel

theorem witness_DataTransfersCoverTheirBytes :
    (wRequest .dataRead 0 []).kind = .dataRead ∧ 1 ≤ (wRequest .dataRead 0 []).count
      ∧ (wRequest .dataWrite 0 []).data.length = (wRequest .dataWrite 0 []).count := by decide +kernel

/-- `wRun` with ring U at a stage and one request on the port. -/
def wPort (stage : Stage) (current : Option RingRecord) (requests : List Request) : State :=
  { wRun with
    ringU := { wRing with stage := stage, current := current }
    requests := requests }

theorem witness_RecordReadTakesOrHalts :
    let q (w4 : Word) := wRequest .recordRead 5 [w4, 0x00020003, 0x100, 0x200, 2]
    (wPort .fetching none [q 1]).requests = [q 1] ∧ (q 1).begun = true ∧ (q 1).discarded = false
      ∧ (q 1).kind = .recordRead ∧ (q 1).ring = .u ∧ (q 1).answered = 5
      ∧ ((wPort .fetching none [q 1]).ringUnit .u).state = .active ∧ (0 : Word).getLsbD 0 = false
      ∧ (1 : Word).getLsbD 0 = true ∧ wRecord.station ≠ 0 ∧ wRecord.outLength.toNat ≤ 120
      ∧ wRecord.inCapacity.toNat ≤ 120 ∧ wRecord.retryLimit.toNat ≤ 3 ∧ wRecord.outLength ≠ 0
      ∧ (recordOfWords 0 0x00794003 0 0 121).station ≠ 0
      ∧ 120 < (recordOfWords 0 0x00794003 0 0 121).outLength.toNat := by decide +kernel

/-- A record of out length 0, valid, for a station in service and for one that is ABSENT. -/
theorem witness_RecordReadTakesOrHalts_no_data :
    (recordOfWords 0 0x00000003 0 0 2).station ≠ 0 ∧ (recordOfWords 0 0x00000003 0 0 2).outLength = 0
      ∧ wRun.recordVerdict (recordOfWords 0 0x00000003 0 0 2) = none
      ∧ wRun.recordVerdict (recordOfWords 0 0x00000004 0 0 2) = some .notActive
      ∧ (recordOfWords 0 0x00000003 0 0 2).inCapacity.toNat ≤ 120
      ∧ (recordOfWords 0 0x00000003 0 0 2).retryLimit.toNat ≤ 3 := by decide +kernel

/-- A record of out length 0 is staged, or completed by a staging test, at the last answer of its read (R120, R122). -/
theorem test_memoryTransferAnswer_no_data :
    let s (w0 : Word) := wPort .fetching none [wRequest .recordRead 5 [1, w0, 0, 0, 2]]
    (after (exec (.memoryTransferAnswer true 0) (s 0x00000003))).ringU.stage = .staged
      ∧ (after (exec (.memoryTransferAnswer true 0) (s 0x00000004))).ringU.stage = .writingBack := by decide +kernel

/-- A completed record. -/
def wDone : RingRecord :=
  { wLoaded with completion := some { result := .ok, cycle := 5, reply := some { condition := 1, payload := [7] } } }

/-- A first transfer to be answered with an error, and a ring with a record posted. -/
theorem witness_RequestsEndAtTheirErrors :
    (wPort .fetching none [wRequest .recordRead 0 []]).requests = [wRequest .recordRead 0 []]
      ∧ (wPort .writingBack (some wDone) [wRequest .statusWrite 0 []]).requests = [wRequest .statusWrite 0 []]
      ∧ (wRequest .recordRead 0 []).begun = true ∧ (wRequest .statusWrite 0 []).discarded = false
      ∧ 0 < ({ wRing with stage := .writingBack, current := some wDone, pending := 1 } : RingUnit).pending := by
  decide +kernel

/-- An error of a RECORD_READ's first transfer halts the ring, and the last answer of a STATUS_WRITE with a record
posted fetches the next (R118, R138, R139). -/
theorem test_memoryTransferAnswer_ends :
    (after (exec (.memoryTransferAnswer false 0)
        (wPort .fetching none [wRequest .recordRead 0 []]))).ringU.reason = .fetchFault
      ∧ (after (exec (.memoryTransferAnswer true 0)
        { wPort .writingBack (some wDone) [wRequest .statusWrite 1 [0]] with
          ringU := { wRing with
            stage := .writingBack, current := some wDone, pending := 1 } })).requests.map (·.kind)
        = [.recordRead] := by decide +kernel

/-- Requests of ring N that wait behind ring U's, the head a RECORD_READ and, with a completed record, a STATUS_WRITE. -/
def wWaiting (q : Request) (p : Request) (stage : Stage) (current : Option RingRecord) : State :=
  { wPort stage current [q, p] with
    ringN := if p.kind = .recordRead then { wRing with stage := .fetching }
      else { wRing with stage := .writingBack, current := some wDone } }

/-- The end of a request with another ring's behind it, and a STATUS_WRITE with a record posted and with none. -/
theorem witness_RequestsWaitBehind :
    let p := Request.fresh .recordRead .n 0 0x40 24 []
    let w := Request.fresh .statusWrite .n 0 0x50 8 []
    let q := wRequest .statusWrite 1 [0]
    let s := wWaiting q p .writingBack (some wDone)
    s.requests = [q, p] ∧ p.begun = false ∧ p.ring ≠ .u ∧ p.sole = false ∧ w.begun = false ∧ w.kind = .statusWrite
      ∧ (s.ringUnit .u).current = some wDone ∧ (s.ringUnit .u).pending = 0
      ∧ 0 < ({ wRing with pending := 1 } : RingUnit).pending
      ∧ ((wWaiting q w .fetching none).ringUnit .n).current = some wDone ∧ wDone.completion.isSome = true := by
  decide +kernel

/-- The oldest request waiting begins at the end of another ring's, and the ring's own next request joins behind it
(R136, R138): an invalid record's STATUS_WRITE, a DATA_READ, a RECORD_READ, and nothing after an error. -/
theorem test_memoryTransferAnswer_waiting :
    let p := Request.fresh .recordRead .n 0 0x40 24 []
    let left (q : Request) (stage : Stage) (current : Option RingRecord) (ok : Bool) :=
      (after (exec (.memoryTransferAnswer ok 0) (wWaiting q p stage current))).requests.map fun x =>
        (x.ring, x.kind, x.begun)
    left (wRequest .recordRead 5 [1, 0x00020000, 0, 0, 2]) .fetching none true
        = [(.n, .recordRead, true), (.u, .statusWrite, false)]
      ∧ left (wRequest .recordRead 5 [1, 0x00020003, 0, 0, 2]) .fetching none true
        = [(.n, .recordRead, true), (.u, .dataRead, false)]
      ∧ left (wRequest .dataRead 0 []) .loading (some wRecord) false
        = [(.n, .recordRead, true), (.u, .statusWrite, false)]
      ∧ left (wRequest .recordRead 0 []) .fetching none false = [(.n, .recordRead, true)] := by decide +kernel

theorem witness_StatusWriteReturnsTheRecordOrHalts :
    let s := wPort .writingBack (some wDone) [wRequest .statusWrite 1 [0]]
    s.requests = [wRequest .statusWrite 1 [0]] ∧ (wRequest .statusWrite 1 [0]).answered = 1
      ∧ (s.ringUnit .u).state = .active ∧ (s.ringUnit .u).pending = 0 ∧ (s.ringUnit .u).current = some wDone
      ∧ wDone.completion.isSome = true := by decide +kernel

/-- Seven bytes from an address ending in 2, over three words: byte 2 is the least significant of the second (R140). -/
theorem witness_DataRequestsEndTheirWay_bytes :
    let q := { Request.fresh .dataRead .u 0 0x102 7 [] with words := [0x04030201, 0x08070605, 0x0C0B0A09] }
    q.kind = .dataRead ∧ q.words.length = q.transfers.length ∧ q.bytesRead = [3, 4, 5, 6, 7, 8, 9] := by
  decide +kernel

theorem witness_DataRequestsEndTheirWay :
    let s := wPort .loading (some wRecord) [wRequest .dataRead 1 [0]]
    let p := { Request.fresh .statusWrite .u 0 0x10 8 [] with begun := false }
    (s.requests = [wRequest .dataRead 1 [0]] ∧ (s.ringUnit .u).current = some wRecord
        ∧ (s.ringUnit .u).stage = .loading ∧ 1 + 1 = (wRequest .dataRead 1 [0]).transfers.length
        ∧ s.recordVerdict wRecord = none)
      ∧ ((wPort .writingBack (some wDone) [wRequest .dataWrite 1 [0], p]).requests
          = [wRequest .dataWrite 1 [0], p]
        ∧ 1 + 1 = (wRequest .dataWrite 1 [0]).transfers.length) := by decide +kernel

/-- The DATA_READ of a record that a staging test completes. -/
theorem witness_DataRequestsEndTheirWay_completed :
    let s := (wPort .loading (some wRecord) [wRequest .dataRead 1 [0]]).setStation 3 { wStation with state := .lost }
    s.recordVerdict wRecord = some .stationLost ∧ s.requests = [wRequest .dataRead 1 [0]]
      ∧ (s.ringUnit .u).stage = .loading ∧ (s.ringUnit .u).current = some wRecord
      ∧ 1 + 1 = (wRequest .dataRead 1 [0]).transfers.length := by decide +kernel

/-- The slot registers of the edit page and, by the read view, of the active one (R92, R195). -/
theorem test_slot_registers_by_view :
    let s := { wRun with schedule := { wRun.schedule with
      page1 := wRun.schedule.page1.set 0 { wSlot with station := 9, outLength := 7 } } }
    s.read 0x50 = 0x00070010
      ∧ ({ s with schedule := { s.schedule with view := .active } } : State).read 0x50 = 0x00020010 := by
  decide +kernel

theorem witness_StatusAndHeadWordsHoldTheirFields :
    (120 : Nat) ≤ 120 ∧ (4 : Nat) ≤ 4 ∧ (true = true → (2 : Nat) ≤ 2) ∧ wRun.engine ≠ .init
      ∧ wRun.schedule.status[wRun.schedule.select] = none ∧ wRun.line.streak ≤ 4
      ∧ ((wRun.setStation 1 wStation).station wRun.stationSelect).identity
          = some { type := 1, revision := 2, serial := 3, maxPayload := 64 }
      ∧ wFullQueue.entries.length ≤ 32 ∧ wFullQueue.overflow ≤ 255 := by decide +kernel

theorem witness_StartIsDecidedInOrder :
    (wRun.engine ≠ .init ∧ wRun.engine ≠ .halted)
      ∧ (wHalted.engine = .halted
        ∧ ({ wHalted.settings with period := 2000, guard := 1887 } : Settings).period < 114 + 1887)
      ∧ (114 + wHalted.settings.guard ≤ wHalted.settings.period
        ∧ wHalted.validate (Vector.replicate 32 { wSlot with station := 0 }) = some (.badStation, 0))
      ∧ wHalted.validate wHalted.schedule.activePage = none := by decide +kernel

/-- The page, P and G of an OVERBOOKED verdict; and one with a legal slot before an illegal one. -/
theorem witness_ValidationPassesLegalPagesThatFit :
    let tight := { wRun with settings := { wRun.settings with period := 2000, guard := 4095 } }
    let page := (Vector.replicate 32 Slot.reset).set 0 wSlot
    ((page[(0 : Fin 32)]).enable = true ∧ tight.validate page = some (.overbooked, 0))
      ∧ wRun.validate (page.set 31 { wSlot with rate := 3 }) = some (.ratePhase, 31)
      ∧ (∀ i : Fin 32, ((Vector.replicate 32 Slot.reset)[i]).enable = false) := by decide +kernel

/-- A page with no enabled slot passes even where P − G is below 90 (R94, log entry 24). -/
theorem test_swap_empty_page :
    (after (exec (.swap 0) { wHalted with
      settings := { wHalted.settings with period := 2000, guard := 4095 } })).host.commandStatus.decision
      = .done := by decide +kernel

theorem witness_StopByEngineState :
    wHalted.engine = .halted ∧ wRun.engine = .running ∧ wRun.context = none ∧ wRun.line.tx = none
      ∧ (wWith wSlotTry .awaitingReply none none).context.isSome = true := by decide +kernel

theorem witness_AbortCutsAndHalts :
    wHalted.engine = .halted ∧ wRun.engine ∈ [.starting, .running, .stopping, .lineFault]
      ∧ (wWith wRingTry .awaitingReply none none).line.tx.all (·.user = .attempt) = true
      ∧ ((wWith wRingTry .awaitingReply none none).ringUnit .u).current = some wLoaded
      ∧ wRun.context = none ∧ wRun.schedule.swapPending = false
      ∧ (wWith wSlotTry .awaitingReply none none).context.map (·.source) = some (.slot 0) := by decide +kernel

/-- An aborted slot's exchange posts its ALERT, its SLOT and then the SWAP_DONE entry (R61, R98, R106). -/
theorem test_abort_entries_in_order :
    (after (exec (.abort 0) { wWith { wSlotTry with unaccounted := 1 } .awaitingReply none none with
      schedule := { wRun.schedule with
        swapPending := true
        page0 := wRun.schedule.page0.set 0 { wSlot with report := .always } } })).queue.entries.map (·.kind)
      = [.alert, .slot, .swapDone] := by decide +kernel

theorem witness_SwapIsDecidedInOrder :
    wRun.engine ≠ .init ∧ wRun.schedule.swapPending = false
      ∧ wRun.validate wRun.schedule.editPage = none ∧ wHalted.validate wHalted.schedule.editPage = none
      ∧ wRun.validate (wRun.schedule.editPage.set 31 { wSlot with station := 63 }) = some (.badStation, 31) := by
  decide +kernel

/-- The one request that a SOFT_RESET left begun, at its last answer, with both rings enabled and posted again. -/
def wSole : State :=
  { wRun with
    ringU := { wRing with pending := 1 }, ringN := { wRing with pending := 2 }
    requests := [{ wRequest .statusWrite 1 [0] with discarded := true, sole := true }] }

theorem witness_SoftResetResetsAndKeeps :
    wRun.engine ≠ .init ∧ wRun.line.tx = none
      ∧ wSole.requests.map (fun q => (q.begun, q.discarded, q.sole)) = [(true, true, true)]
      ∧ wSole.requests.map (fun q => decide (q.transfers.length ≤ q.answered + 1)) = [true]
      ∧ (∀ r, (wSole.ringUnit r).state = .active ∧ 0 < (wSole.ringUnit r).pending
        ∧ (wSole.ringUnit r).stage = .none) := by
  refine ⟨by decide, by decide, by decide, by decide, fun r => ?_⟩
  cases r <;> decide

/-- While that request is in the queue a POST to either ring only counts (R136, R145). -/
theorem test_post_under_a_sole_request :
    (after (exec (.post .n 1) wSole)).requests.length = 1
      ∧ (after (exec (.post .n 1) wSole)).ringN.pending = 3 := by decide +kernel

theorem witness_RingEnableAndResume :
    let h := { wRun with ringU := { wRing with state := .halted, reason := .ownership, pending := 1 } }
    wRun.engine ≠ .init ∧ 1 < (2 : Byte).toNat ∧ (0 : Byte).toNat = ringCode .u ∧ (1 : Byte).toNat = ringCode .n
      ∧ wRing.state ≠ .off ∧ (wRun.ringUnit .u).state = .off ∧ 4 ≤ (wRun.ringUnit .u).length
      ∧ 256 < ({ RingUnit.reset with length := 257 } : RingUnit).length
      ∧ (h.ringUnit .u).state = .halted ∧ (h.ringUnit .u).stage = .none ∧ 0 < (h.ringUnit .u).pending
      ∧ h.requests = [] := by decide +kernel

/-- A halted ring with nothing posted, and one while ring N's request holds the port. -/
theorem witness_RingEnableAndResume_nothing_fetched :
    let h : RingUnit := { wRing with state := .halted, reason := .ownership }
    let busy := { wPort .none none [{ wRequest .recordRead 0 [] with ring := .n }] with ringU := { h with pending := 1 } }
    h.pending = 0 ∧ h.state = .halted ∧ h.stage = .none
      ∧ busy.requests.all (fun q => decide (q.ring ≠ .u ∧ q.sole = false ∧ q.begun = true)) = true
      ∧ wSole.requests.any (·.sole) = true := by decide +kernel

/-- RING_RESUME shows DONE, with its fetch behind the request on the port (R118, R132, R138). -/
theorem test_ringResume :
    let busy := { wPort .none none [{ wRequest .recordRead 0 [] with ring := .n }] with
      ringU := { wRing with state := .halted, reason := .ownership, pending := 1 } }
    (after (exec (.ringResume 0) busy)).host.commandStatus.decision = .done
      ∧ (after (exec (.ringResume 0) busy)).requests.map (fun q => (q.ring, q.begun))
        = [(.n, true), (.u, false)] := by decide +kernel

theorem witness_RingResetGivesUpTheRing :
    wRun.engine ≠ .init ∧ 1 < (2 : Byte).toNat ∧ (0 : Byte).toNat = ringCode .u
      ∧ wRun.context = none
      ∧ (wWith wRingTry .awaitingReply none none).context.map (fun e => (e.source, e.state))
          = some (.ring .u 0, .awaitingReply)
      ∧ (wWith wRingTry .ending none none).context.map (fun e => (e.source, e.state))
          = some (.ring .u 0, .ending)
      ∧ ({ wWith wRingTry .ending none none with engine := .stopping } : State).engine = .stopping := by
  decide +kernel

/-- A begun request that a RING_RESET discarded, before the requests given, with the ring enabled and posted again. -/
def wDiscarded (rest : List Request) (pending : Nat) : State :=
  { wRun with
    ringU := { wRing with pending := pending }
    ringN := { wRing with stage := .fetching }
    requests := { wRequest .dataRead 1 [0] with discarded := true } :: rest }

theorem witness_RingResetGivesUpTheRing_discarded :
    let q := { wRequest .dataRead 1 [0] with discarded := true }
    q.begun = true ∧ q.discarded = true ∧ q.sole = false ∧ q.transfers.length ≤ q.answered + 1
      ∧ ((wDiscarded [] 1).ringUnit .u).state = .active ∧ 0 < ((wDiscarded [] 1).ringUnit .u).pending
      ∧ ((wDiscarded [] 1).ringUnit .u).stage = .none ∧ ¬ 0 < ((wDiscarded [] 0).ringUnit .u).pending
      ∧ (Request.fresh .recordRead .n 0 0 24 []).begun = false ∧ (Request.fresh .recordRead .n 0 0 24 []).ring ≠ .u
      ∧ (Request.fresh .recordRead .n 0 0 24 []).sole = false
      ∧ (Request.fresh .statusWrite .n 0 16 8 []).begun = false
      ∧ (({ wDiscarded [] 1 with ringN := { wRing with stage := .writingBack, current := some wDone } } : State).ringUnit
          .n).current = some wDone := by decide +kernel

/-- At its end the next request begins, with the ring's first fetch behind it (R118, R138, R144). -/
theorem test_memoryTransferAnswer_discarded :
    (after (exec (.memoryTransferAnswer true 0)
        (wDiscarded [Request.fresh .recordRead .n 0 0 24 []] 1))).requests.map (fun q => (q.ring, q.begun))
      = [(.n, true), (.u, false)]
      ∧ (after (exec (.memoryTransferAnswer false 0) (wDiscarded [] 1))).requests.map (fun q => (q.kind, q.begun))
        = [(.recordRead, true)] := by decide +kernel

theorem witness_QueueClearAndWritesThatNothingTakes :
    wRun.engine ≠ .init ∧ (14 : Byte).toNat > 13 ∧ (0x7 : BitVec 4) ≠ 0xF#4
      ∧ (0x33 : Byte).toNat / 4 * 4 = 0x30 ∧ 0xB0 ≤ (0xB0 : Byte).toNat := by decide

/-- A command code of each kind, an offset in the map's table and one outside it (R178, R194). -/
theorem witness_QueueClearAndWritesThatNothingTakes_hostWrite :
    (BitVec.ofNat 8 ((0x010D : Word).toNat % 256)).toNat = 12 + 1
      ∧ BitVec.ofNat 8 ((0x0100 : Word).toNat % 256) = 0#8
      ∧ 13 < (BitVec.ofNat 8 ((0x010E : Word).toNat % 256)).toNat
      ∧ (0x07 : Byte).toNat / 4 * 4 = 0x04 ∧ (0xAB : Byte).toNat / 4 * 4 = 0xA8
      ∧ (0xAC : Byte).toNat / 4 * 4 ∉ [0x0C, 0xA8] := by decide

theorem witness_StationCommands :
    wRun.engine ≠ .init ∧ (63 : Byte).toNat > 62 ∧ (1 : Byte).toNat = (1 : Address).toNat
      ∧ (62 : Byte).toNat = (62 : Address).toNat ∧ (wRun.station 62).state ∈ [.absent, .barred]
      ∧ (wRun.station 3).state ∈ [.joining, .active, .suspect, .lost]
      ∧ ((wRun.setStation 1 { wStation with state := .joining }).station 1).state = .joining := by decide +kernel

theorem witness_SupervisionUpdates :
    (wRun.station 3).state ∈ [.active, .suspect] ∧ (wRun.station 3).missCount + 1 < wRun.settings.missLimit
      ∧ ((wRun.setStation 3 { wStation with state := .suspect, missCount := 2 }).station 3).missCount + 1
        = wRun.settings.missLimit := by decide +kernel

theorem witness_AccountingSplitsByTheAlertMask :
    1 ≤ (3 : Address).toNat ∧ (3 : Address).toNat ≤ 62 ∧ FaultKind.warn.set &&& (wRun.station 3).alertMask = 0
      ∧ FaultKind.check.set &&& (wRun.station 3).alertMask ≠ 0 ∧ wRun.queue.entries.length < 32
      ∧ 32 ≤ wFullQueue.entries.length := by decide +kernel

theorem witness_PostPlacesOrRefuses :
    ({ wHalted with queue := { wFullQueue with entries := wFullQueue.entries.drop 1 } } : State).queue.entries.length < 32
      ∧ 32 ≤ ({ wHalted with queue := wFullQueue } : State).queue.entries.length := by decide +kernel

theorem witness_PostCountsRecords :
    let x := { wRun with ringU := { wRing with pending := 3 } }
    x.engine ≠ .init ∧ wRun.ringU.state = .off ∧ (x.ringUnit .u).state ≠ .off
      ∧ (x.ringUnit .u).length < (x.ringUnit .u).pending + 2 ∧ (x.ringUnit .u).pending + 1 ≤ (x.ringUnit .u).length
      ∧ (x.ringUnit .u).stage = .none ∧ x.requests = []
      ∧ (wPort .staged (some wLoaded) []).ringU.stage ≠ .none
      ∧ (wSole.ringU.state = .active ∧ wSole.requests.any (·.sole) = true)
      ∧ (let busy := { wPort .none none [{ wRequest .recordRead 0 [] with ring := .n }] with ringU := x.ringU }
        busy.requests.all (fun q => decide (q.ring ≠ .u ∧ q.sole = false ∧ q.begun = true)) = true
          ∧ busy.requests ≠ [])
      ∧ ({ wRing with state := .halted } : RingUnit).state = .halted := by decide +kernel

theorem witness_RingRegisterWrites :
    wRun.engine ≠ .init ∧ (wRun.ringUnit .n).state = .off ∧ wRing.state ≠ .off := by decide +kernel

theorem witness_QueueAndFlagWrites : wRun.engine ≠ .init := by decide +kernel

theorem witness_ConfigurationWrites :
    (wRun.engine ≠ .init ∧ wRun.engine ≠ .halted) ∧ wHalted.engine = .halted
      ∧ 255 = (0x07FFFF3F : Word).toNat / 256 % 256 ∧ 2047 = (0x07FFFF3F : Word).toNat / 65536 % 2048
      ∧ 63 = (0x07FFFF3F : Word).toNat % 64 := by decide +kernel

theorem witness_MissLimitWriteLosesStations :
    wRun.engine ≠ .init ∧ 1 = max 1 ((0 : Word).toNat % 8) ∧ 7 = max 1 ((7 : Word).toNat % 8) := by
  decide +kernel

theorem witness_ScheduleRegisterWrites :
    wRun.engine ≠ .init ∧ wRun.schedule.swapPending = false
      ∧ ({ wRun with schedule := { wRun.schedule with swapPending := true } } : State).schedule.swapPending = true := by
  decide +kernel

theorem witness_StationRegisterWrites :
    wRun.engine ≠ .init ∧ 2047 = (0x7FF : Word).toNat % 2048 ∧ 1 ≤ wRun.stationSelect.toNat
      ∧ ({ wRun with stationSelect := 62 } : State).stationSelect.toNat ≤ 62 := by decide +kernel

theorem witness_ExchangeMemoryAccess :
    wRun.engine ≠ .init ∧ wRun.exmem.wf = true ∧ wRun.exmemAddr.toNat % 4 = 0
      ∧ ({ wRun with exmemAddr := 4092 } : State).exmemAddr.toNat % 4 = 0 := by decide +kernel

end Sys2Proof.Tests
end

section
namespace Sys2Proof.Machine.TheCycle

/-! ### A later moment of one event (log entry 4) -/

/-- A state at a later moment of one event: the cycle, the line, the context and the late watch have moved. -/
def during (s : State) (c : CycleUnit) (l : LineUnit) (x : Option Exchange) (w : Option Address) : State :=
  { s with cycle := c, line := l, context := x, lateWatch := w }

section Moment
variable (s : State) (c : CycleUnit) (l : LineUnit) (x : Option Exchange) (w : Option Address)

@[simp] theorem during_fields :
    (during s c l x w).cycle = c ∧ (during s c l x w).line = l ∧ (during s c l x w).context = x ∧
      (during s c l x w).lateWatch = w ∧ (during s c l x w).engine = s.engine ∧
      (during s c l x w).stations = s.stations ∧ (during s c l x w).settings = s.settings ∧
      (during s c l x w).schedule = s.schedule ∧ (during s c l x w).queue = s.queue ∧
      (during s c l x w).host = s.host ∧ (during s c l x w).requests = s.requests ∧
      (during s c l x w).lateFrame = s.lateFrame ∧ (during s c l x w).exmem = s.exmem ∧
      (during s c l x w).ringU = s.ringU ∧ (during s c l x w).ringN = s.ringN := by
  simp [during]

@[simp] theorem during_station (a : Address) : (during s c l x w).station a = s.station a := rfl

@[simp] theorem during_ringUnit (r : Ring) : (during s c l x w).ringUnit r = s.ringUnit r := by
  cases r <;> rfl

@[simp] theorem during_queueFull : (during s c l x w).queueFull = s.queueFull := rfl

theorem during_raise (f : IntFlag) : (during s c l x w).raise f = during (s.raise f) c l x w := rfl

theorem during_post (e : Entry) : (during s c l x w).post e = during (s.post e) c l x w := by
  unfold State.post
  rw [during_queueFull]
  split
  · rfl
  · simp only [during_fields]
    split <;> rfl

theorem during_setStation (a : Address) (r : Station) :
    (during s c l x w).setStation a r = during (s.setStation a r) c l x w := by
  unfold State.setStation
  split <;> rfl

theorem during_addSticky (a : Address) (k : KindSet) :
    (during s c l x w).addSticky a k = during (s.addSticky a k) c l x w := during_setStation ..

theorem during_alert (e : Entry) : (during s c l x w).alert e = during (s.alert e) c l x w := by
  unfold State.alert
  rw [during_queueFull, during_post]
  split
  · exact during_addSticky ..
  · rfl

variable {c} (hc : c.number = s.cycle.number)
include hc

theorem during_enterLost (a : Address) : (during s c l x w).enterLost a = during (s.enterLost a) c l x w := by
  simp only [State.enterLost, State.postStation, during_setStation, during_post, during_station, during_fields, hc,
    State.setStation_frame]

/-- Supervision reads nothing of the moment but the cycle number. -/
theorem during_supervise (a : Address) (b : Bool) :
    (during s c l x w).supervise a b = during (s.supervise a b) c l x w := by
  unfold State.supervise
  simp only [during_station, during_setStation, during_enterLost s l x w hc, during_fields]
  split
  · rfl
  · split
    · rfl
    · split <;> rfl

/-- Accounting reads nothing of the moment but the cycle number. -/
theorem during_account (a : Address) (k : KindSet) (e : Entry) :
    (during s c l x w).account a k e = during (s.account a k e) c l x w := by
  unfold State.account
  simp only [during_station, during_fields, during_alert, hc]
  split
  · rfl
  · split <;> exact during_addSticky ..

theorem during_afterAccounting (source : Source) (a : Address) (k : KindSet) :
    (during s c l x w).afterAccounting source a k = during (s.afterAccounting source a k) c l x w := by
  unfold State.afterAccounting
  split
  · rfl
  · cases source with
    | slot i => exact during_account s l x w hc ..
    | ring r i => exact during_account s l x w hc ..
    | rollCall => rfl

end Moment

/-- A stay's supervision update is that of its station, unless the exchange is with none (R57, R58, R59). -/
theorem superviseExchange_eq {e : Exchange} (s : State) (h : e.source ≠ .rollCall) :
    s.superviseExchange e = if e.station = 63 then s else s.supervise e.station e.answered := by
  unfold State.superviseExchange Exchange.toStation broadcastAddress
  by_cases ha : e.station = 63 <;> simp [ha, h]

end Sys2Proof.Machine.TheCycle
end

section
namespace Sys2Proof.Machine.TheCycle

/-! ### Comparing states -/

/-- What no exchange's end touches, field by field. -/
theorem keepsRest_iff {t s : State} :
    t.keepsRest s ↔ t.resetAsserted = s.resetAsserted ∧ t.settings = s.settings ∧
      t.stationSelect = s.stationSelect ∧ t.exmem = s.exmem ∧ t.exmemAddr = s.exmemAddr ∧
      t.orderIndex = s.orderIndex ∧ t.pending = s.pending := by
  obtain ⟨⟩ := t
  obtain ⟨⟩ := s
  simp [State.keepsRest]

/-- Both rings and the request queue stand. -/
theorem keepsRings_iff {t s : State} :
    t.keepsRings s ↔ (∀ r, t.ringUnit r = s.ringUnit r) ∧ t.requests = s.requests := by
  refine ⟨fun ⟨hu, hn, hq⟩ => ⟨fun r => by cases r <;> assumption, hq⟩, fun ⟨hr, hq⟩ => ⟨hr .u, hr .n, hq⟩⟩

/-- The Station Table after an entry to HALTED is the one before (R188). -/
@[simp] theorem afterHalting_stations (v : State) : v.afterHalting.stations = v.stations := by
  unfold State.afterHalting
  split <;> simp

/-- Emptying the context leaves the Station Table that the exchange's end has left. -/
theorem closes_stations {t v : State} {m : CycleUnit} (h : t.closes v m)
    (hv : v.engine = .running ∨ v.engine = .stopping) : t.stations = v.stations := by
  obtain ⟨-, hr, hs⟩ := h
  rcases hv with hv | hv
  · obtain ⟨-, -, -, -, -, -, hands, -⟩ := hr hv
    exact hands
  · obtain ⟨-, -, -, -, -, -, hands, -⟩ := hs hv
    exact hands.trans (afterHalting_stations v)

/-- The entry to HALTED hands on the same whatever the fields that no hand-off reads. -/
theorem closes_congr {t v : State} {m : CycleUnit} (h : t.closes v m) (x : Option Exchange) (mem : Memory)
    (u n : RingUnit) (qs : List Request) :
    t.closes { v with context := x, exmem := mem, ringU := u, ringN := n, requests := qs } m := by
  obtain ⟨hx, hr, hs⟩ := h
  have key : ∀ z : State, z = { v with context := x, exmem := mem, ringU := u, ringN := n, requests := qs } →
      z.afterHalting.schedule = v.afterHalting.schedule ∧ v.afterHalting.handsOn z.afterHalting := by
    rintro _ rfl
    unfold State.afterHalting
    constructor
    · dsimp only; split <;> simp
    · apply State.handsOn_raise
      dsimp only
      split
      · apply State.handsOn_post
        · exact ⟨rfl, rfl, rfl⟩
        · rfl
      · exact ⟨rfl, rfl, rfl⟩
  obtain ⟨hsch, h1, h2, h3⟩ := key _ rfl
  refine ⟨hx, hr, fun he => ?_⟩
  obtain ⟨a, b, c, d, e, f, g1, g2, g3⟩ := hs he
  exact ⟨a, b, c, d, e, f.trans hsch.symm, g1.trans h1, g2.trans h2, g3.trans h3⟩

/-! ### The request queue and a record's completion -/

/-- Serving the queue changes the requests alone (R138). -/
theorem serve_eq (s : State) : s.serve = { s with requests := s.serve.requests } := by
  unfold State.serve
  split
  · rfl
  · split <;> rfl

/-- An issue changes the requests alone (R136, R138). -/
theorem issue_eq (s : State) (q : Request) : s.issue q = { s with requests := (s.issue q).requests } := by
  unfold State.issue
  rw [serve_eq]

theorem issueReply_eq (s : State) (r : Ring) (record : RingRecord) (reply : Option Reply) :
    s.issueReply r record reply = { s with requests := (s.issueReply r record reply).requests } := by
  unfold State.issueReply
  split
  · split
    · rfl
    · exact issue_eq ..
  · rfl

/-- A completed record changes its ring and the requests alone (R125, R126). -/
theorem completeRecord_eq (s : State) (r : Ring) (record : RingRecord) (result : Result) (reply : Option Reply) :
    s.completeRecord r record result reply =
      { s.setRing r { s.ringUnit r with
          stage := .writingBack
          current := some { record with
            completion := some { result := result, cycle := s.cycle.number, reply := reply } } } with
        requests := (s.completeRecord r record result reply).requests } := by
  unfold State.completeRecord
  dsimp only
  rw [issue_eq, issueReply_eq]

@[simp] theorem ringUnit_with_requests (s : State) (qs : List Request) (r : Ring) :
    State.ringUnit { s with requests := qs } r = s.ringUnit r := by cases r <;> rfl

/-- The rings after a record's completion (R125). -/
theorem completeRecord_ringUnit (s : State) (r q : Ring) (record : RingRecord) (result : Result)
    (reply : Option Reply) :
    (s.completeRecord r record result reply).ringUnit q =
      if q = r then { s.ringUnit r with
          stage := .writingBack
          current := some { record with
            completion := some { result := result, cycle := s.cycle.number, reply := reply } } }
      else s.ringUnit q := by
  rw [completeRecord_eq, ringUnit_with_requests, State.ringUnit_setRing]

/-- A record's completion hands nothing on but to its ring and the port. -/
theorem completeRecord_fields (s : State) (r : Ring) (record : RingRecord) (result : Result)
    (reply : Option Reply) : ∃ u n qs, s.completeRecord r record result reply =
      { s with ringU := u, ringN := n, requests := qs } := by
  rw [completeRecord_eq]
  cases r <;> exact ⟨_, _, _, rfl⟩

/-! ### A slot's result -/

/-- A slot's result: what it hands on, and the in-area of an OK result (R104, R105, R106). -/
theorem slotResult_eq (s : State) (i : Fin 32) (result : Result) (causes : KindSet) (payload : List Byte) :
    s.slotResult i result causes payload =
      { s.afterSlotResult i result causes with
        exmem := if result = .ok then
            s.exmem.setBytes (s.schedule.activePage[i]).inOffset.toNat payload
          else s.exmem } := by
  unfold State.slotResult State.afterSlotResult State.afterSlotEntry
  simp only [ReportMode.posts_iff]
  split
  · unfold State.post State.queueFull
    split <;> (dsimp only; split)
    · rfl
    · split <;> rfl
    · rfl
    · split <;> rfl
  · split <;> rfl

end Sys2Proof.Machine.TheCycle
end

section
namespace Sys2Proof.Machine.TheCycle

/-! ### The end of a stay (R54, R57) -/

/-- A slot's result changes the slot status table and what a post changes (R105, R106). -/
@[simp] theorem afterSlotResult_frame (s : State) (i : Fin 32) (result : Result) (k : KindSet) :
    (s.afterSlotResult i result k).engine = s.engine ∧ (s.afterSlotResult i result k).line = s.line ∧
      (s.afterSlotResult i result k).cycle = s.cycle ∧ (s.afterSlotResult i result k).context = s.context ∧
      (s.afterSlotResult i result k).lateWatch = s.lateWatch ∧
      (s.afterSlotResult i result k).lateFrame = s.lateFrame ∧
      (s.afterSlotResult i result k).stations = s.stations ∧ (s.afterSlotResult i result k).ringU = s.ringU ∧
      (s.afterSlotResult i result k).ringN = s.ringN ∧ (s.afterSlotResult i result k).requests = s.requests := by
  unfold State.afterSlotResult State.afterSlotEntry
  split <;> simp

/-- What a stay's supervision update and its accounting hand on, the update made for a station alone (R57, R58). -/
def handedOn (s : State) (e : Exchange) : State :=
  (if e.station = 63 then s else s.supervise e.station e.answered).afterAccounting e.source e.station e.unaccounted

theorem handedOn_eq {s : State} {e : Exchange} (h : e.source ≠ .rollCall) :
    (s.superviseExchange e).accountExchange e = handedOn s e := by
  rw [State.accountExchange_eq, superviseExchange_eq s h]
  rfl

/-- An accounting changes the Station Table and what a post changes (R57, R151). -/
@[simp] theorem afterAccounting_frame (s : State) (source : Source) (a : Address) (k : KindSet) :
    (s.afterAccounting source a k).engine = s.engine ∧
      (s.afterAccounting source a k).resetAsserted = s.resetAsserted ∧
      (s.afterAccounting source a k).line = s.line ∧ (s.afterAccounting source a k).cycle = s.cycle ∧
      (s.afterAccounting source a k).settings = s.settings ∧
      (s.afterAccounting source a k).context = s.context ∧
      (s.afterAccounting source a k).lateWatch = s.lateWatch ∧
      (s.afterAccounting source a k).lateFrame = s.lateFrame ∧
      (s.afterAccounting source a k).stationSelect = s.stationSelect ∧
      (s.afterAccounting source a k).schedule = s.schedule ∧ (s.afterAccounting source a k).exmem = s.exmem ∧
      (s.afterAccounting source a k).exmemAddr = s.exmemAddr ∧
      (s.afterAccounting source a k).ringU = s.ringU ∧ (s.afterAccounting source a k).ringN = s.ringN ∧
      (s.afterAccounting source a k).requests = s.requests ∧
      (s.afterAccounting source a k).orderIndex = s.orderIndex ∧
      (s.afterAccounting source a k).pending = s.pending := by
  unfold State.afterAccounting
  split
  · simp
  · cases source <;> simp

@[simp] theorem afterAccounting_ringUnit (s : State) (source : Source) (a : Address) (k : KindSet) (r : Ring) :
    (s.afterAccounting source a k).ringUnit r = s.ringUnit r := by cases r <;> simp [State.ringUnit]

/-- The end of a stay changes the Station Table and what a post changes (R57). -/
@[simp] theorem handedOn_frame (s : State) (e : Exchange) :
    (handedOn s e).engine = s.engine ∧ (handedOn s e).resetAsserted = s.resetAsserted ∧
      (handedOn s e).line = s.line ∧ (handedOn s e).cycle = s.cycle ∧ (handedOn s e).settings = s.settings ∧
      (handedOn s e).context = s.context ∧ (handedOn s e).lateWatch = s.lateWatch ∧
      (handedOn s e).lateFrame = s.lateFrame ∧ (handedOn s e).stationSelect = s.stationSelect ∧
      (handedOn s e).schedule = s.schedule ∧ (handedOn s e).exmem = s.exmem ∧
      (handedOn s e).exmemAddr = s.exmemAddr ∧ (handedOn s e).ringU = s.ringU ∧
      (handedOn s e).ringN = s.ringN ∧ (handedOn s e).requests = s.requests ∧
      (handedOn s e).orderIndex = s.orderIndex ∧ (handedOn s e).pending = s.pending := by
  unfold handedOn
  split <;> simp

@[simp] theorem handedOn_ringUnit (s : State) (e : Exchange) (r : Ring) :
    (handedOn s e).ringUnit r = s.ringUnit r := by cases r <;> simp [State.ringUnit]

theorem during_handedOn (s : State) {c : CycleUnit} (l : LineUnit) (x : Option Exchange) (w : Option Address)
    (hc : c.number = s.cycle.number) (e : Exchange) :
    handedOn (during s c l x w) e = during (handedOn s e) c l x w := by
  unfold handedOn
  split
  · exact during_afterAccounting s l x w hc ..
  · rw [during_supervise s l x w hc]
    exact during_afterAccounting _ l x w (by simpa using hc) ..

/-- The port's queue is read in the requests and the current records alone (R126, R138). -/
theorem servesNext_congr {t z : State} {waiting : List Request} (hq : t.requests = z.requests)
    (hr : ∀ r, (t.ringUnit r).current = (z.ringUnit r).current) (h : z.servesNext waiting) :
    t.servesNext waiting := by
  simpa only [State.servesNext, hq, hr] using h

theorem issuesBehind_congr {t z : State} {waiting issued : List Request} (hq : t.requests = z.requests)
    (hr : ∀ r, (t.ringUnit r).current = (z.ringUnit r).current) (h : z.issuesBehind waiting issued) :
    t.issuesBehind waiting issued := by
  simpa only [State.issuesBehind, State.servesNext, hq, hr] using h

theorem emptyContext_ringUnit (s : State) (source : Source) (r : Ring) :
    (s.emptyContext source).ringUnit r = s.ringUnit r := by cases r <;> simp [State.ringUnit]

/-! ### How an exchange ends (R57, R64, R103, R125) -/

/-- A record's completion, with the exchange's progress, in a state with the rings and the requests of another (R57,
R125, R126). -/
theorem completes_of_completeRecord {s v t : State} {r : Ring} {e : Exchange} {record : RingRecord} {result : Result}
    {reply : Option Reply} (hvr : ∀ q, v.ringUnit q = s.ringUnit q) (hvq : v.requests = s.requests)
    (hvn : v.cycle.number = s.cycle.number)
    (htr : ∀ q, t.ringUnit q = (v.completeRecord r (record.withProgress e) result reply).ringUnit q)
    (htq : t.requests = (v.completeRecord r (record.withProgress e) result reply).requests) :
    s.completes t r e record result reply := by
  have hbehind := v.completeRecord_issuesBehind r (record.withProgress e) result reply
  have hw : v.statusWriteRequest r (record.withProgress e) = s.statusWriteRequest r record := by
    simp [State.statusWriteRequest, hvr, RingRecord.withProgress]
  rw [hw, hvq] at hbehind
  refine ⟨?_, fun q hq => ?_, issuesBehind_congr htq (fun q => by rw [htr]) hbehind⟩
  · rw [htr, completeRecord_ringUnit, if_pos rfl, hvr, hvn]
    rfl
  · rw [htr, completeRecord_ringUnit, if_neg hq, hvr]

/-- A ring record's exchange ends: its stay's end, its record completed, and the context emptied (R57, R125). -/
theorem endExchange_ring {s : State} {e : Exchange} {r : Ring} {i : Byte} {record : RingRecord} (result : Result)
    (reply : Option Reply) (hrun : s.engine = .running ∨ s.engine = .stopping) (hs : e.source = .ring r i)
    (ho : e.orphaned = false) (hcur : (s.ringUnit r).current = some record) :
    (s.endExchange e result reply).closes (handedOn s e) s.cycle.selecting
      ∧ s.completes (s.endExchange e result reply) r e record result reply
      ∧ (s.endExchange e result reply).keepsRest s := by
  have hroll : e.source ≠ .rollCall := by simp [hs]
  have heq : s.endExchange e result reply
      = ((handedOn s e).completeRecord r (record.withProgress e) result reply).emptyContext (.ring r i) := by
    unfold State.endExchange
    rw [handedOn_eq hroll]
    simp [State.sourceTakes, hs, ho, hcur]
  rw [heq]
  generalize hv : handedOn s e = v
  have hve : v.engine = s.engine := by simp [← hv]
  have hvc : v.cycle = s.cycle := by simp [← hv]
  have hcloses := State.emptyContext_closes
    (s := v.completeRecord r (record.withProgress e) result reply) (source := .ring r i)
    (by simpa [hve] using hrun) (by simp)
  refine ⟨?_, completes_of_completeRecord (v := v) (by simp [← hv]) (by simp [← hv]) (by rw [hvc])
    (emptyContext_ringUnit _ _) (by simp), ?_⟩
  · obtain ⟨u, n, qs, hz⟩ := completeRecord_fields v r (record.withProgress e) result reply
    rw [hz] at hcloses ⊢
    rw [← hvc]
    exact closes_congr hcloses v.context v.exmem v.ringU v.ringN v.requests
  · simp [keepsRest_iff, ← hv]

/-- The end of an orphaned exchange makes nothing of its result (R57, R64). -/
theorem endExchange_discards {s : State} {e : Exchange} {r : Ring} {i : Byte} (result : Result) (reply : Option Reply)
    (hs : e.source = .ring r i) (ho : e.orphaned = true) :
    s.endExchange e result reply = (handedOn s e).emptyContext (.ring r i) := by
  unfold State.endExchange
  rw [handedOn_eq (by simp [hs])]
  simp [State.sourceTakes, hs, ho]

/-- An orphaned exchange ends: its stay's end, its result discarded, and the context emptied (R57, R64). -/
theorem endExchange_orphan {s : State} {e : Exchange} {r : Ring} {i : Byte} (result : Result)
    (reply : Option Reply) (hrun : s.engine = .running ∨ s.engine = .stopping) (hs : e.source = .ring r i)
    (ho : e.orphaned = true) :
    (s.endExchange e result reply).closes (handedOn s e) s.cycle.selecting
      ∧ (s.endExchange e result reply).keepsRings s ∧ (s.endExchange e result reply).keepsRest s := by
  rw [endExchange_discards result reply hs ho]
  refine ⟨?_, by simp [State.keepsRings], by simp [keepsRest_iff]⟩
  simpa using State.emptyContext_closes (s := handedOn s e) (source := .ring r i) (by simpa using hrun) (by simp)

/-- A slot's exchange ends: its stay's end, its result taken, and the walk moved on (R57, R103, R104). -/
theorem endExchange_slot {s : State} {e : Exchange} {i : Fin 32} {result : Result} (given : Result)
    (reply : Option Reply) (hrun : s.engine = .running ∨ s.engine = .stopping) (hs : e.source = .slot i)
    (hresult : result = if given = .ok ∧ s.schedule.held i = true then .okHeld else given) :
    (s.endExchange e given reply).closes ((handedOn s e).afterSlotResult i result e.causes)
        (s.cycle.walkedOn (s.dueSlotFrom (i.val + 1)))
      ∧ (s.endExchange e given reply).exmem =
          (if result = .ok then
            s.exmem.setBytes (s.schedule.activePage[i]).inOffset.toNat ((reply.map (·.payload)).getD [])
          else s.exmem)
      ∧ (s.endExchange e given reply).keepsRings s
      ∧ State.keepsRest { s.endExchange e given reply with exmem := s.exmem } s := by
  have heq : s.endExchange e given reply = State.emptyContext
      ((handedOn s e).slotResult i result e.causes ((reply.map (·.payload)).getD [])) (.slot i) := by
    unfold State.endExchange
    rw [handedOn_eq (by simp [hs])]
    simp [State.sourceTakes, hs, hresult]
  rw [heq]
  generalize hv : handedOn s e = v
  have hve : v.engine = s.engine := by simp [← hv]
  have hvc : v.cycle = s.cycle := by simp [← hv]
  have hvsch : v.schedule = s.schedule := by simp [← hv]
  have hdue (n : Nat) : (v.slotResult i result e.causes ((reply.map (·.payload)).getD [])).dueSlotFrom n
      = s.dueSlotFrom n := by
    simp only [State.dueSlotFrom, Schedule.activePage, Schedule.page, State.slotResult_frame, hvc, hvsch]
  have hcloses := State.emptyContext_closes_slot
    (s := v.slotResult i result e.causes ((reply.map (·.payload)).getD [])) (by simpa [hve] using hrun) i
  rw [hdue] at hcloses
  refine ⟨?_, ?_, by simp [State.keepsRings, ← hv], by simp [keepsRest_iff, ← hv]⟩
  · rw [slotResult_eq] at hcloses ⊢
    have hcyc : (v.afterSlotResult i result e.causes).cycle = s.cycle := by simp [hvc]
    rw [← hcyc]
    generalize v.afterSlotResult i result e.causes = z at *
    exact closes_congr hcloses z.context z.exmem z.ringU z.ringN z.requests
  · rw [slotResult_eq]
    simp [← hv]

/-- The context empties after an exchange that no slot made, in every engine state (R33, R39, R184). -/
theorem emptyContext_closes_any (s : State) {source : Source} (hs : ∀ i, source ≠ .slot i) :
    (s.emptyContext source).closes s s.cycle.selecting := by
  by_cases h : s.engine = .running ∨ s.engine = .stopping
  · exact State.emptyContext_closes h hs
  · exact ⟨by simp, fun hr => absurd (.inl hr) h, fun hr => absurd (.inr hr) h⟩

/-- A record returns to staging by a retry that did not begin: its stay's end, the record staged again with its
progress, and the context emptied (R54, R124). -/
theorem returnToStaging_ring {s : State} {e : Exchange} {r : Ring} {i : Byte} {record : RingRecord}
    (hs : e.source = .ring r i) (hcur : (s.ringUnit r).current = some record) :
    (s.returnToStaging e).closes (handedOn s e) s.cycle.selecting
      ∧ s.restages (s.returnToStaging e) r e record ∧ (s.returnToStaging e).keepsRest s
      ∧ (s.returnToStaging e).stations = (handedOn s e).stations := by
  have heq : s.returnToStaging e = State.emptyContext ((handedOn s e).setRing r { s.ringUnit r with
      stage := .staged, current := some (record.withProgress e) }) (.ring r i) := by
    unfold State.returnToStaging
    rw [handedOn_eq (by simp [hs])]
    simp [hs, hcur]
  rw [heq]
  generalize hv : handedOn s e = v
  have hvc : v.cycle = s.cycle := by simp [← hv]
  have hcloses := emptyContext_closes_any (v.setRing r { s.ringUnit r with
      stage := .staged, current := some (record.withProgress e) }) (source := .ring r i) (by simp)
  refine ⟨?_, ⟨?_, fun q hq => ?_, by simp [← hv]⟩, by simp [keepsRest_iff, ← hv], by simp⟩
  · rw [← hvc]
    cases r <;> exact closes_congr hcloses v.context v.exmem v.ringU v.ringN v.requests
  · rw [emptyContext_ringUnit, State.ringUnit_setRing, if_pos rfl]
    rfl
  · rw [emptyContext_ringUnit, State.ringUnit_setRing, if_neg hq, ← hv, handedOn_ringUnit]

end Sys2Proof.Machine.TheCycle
end

section
namespace Sys2Proof.Machine.TheCycle

/-! ### How a try concludes, at a later moment of its event (R44, R52) -/

/-- The state that a concluded try's stay hands on, at a later moment of the event: supervision by whether the station
has answered, and accounting of the causes with the outcome's kind among them (R44, R57). -/
def concludedAt (s : State) (c : CycleUnit) (l : LineUnit) (w : Option Address) (e : Exchange) (o : TryOutcome) :
    State :=
  { (s.supervise e.station (e.answered || o.isAnswered)).afterAccounting e.source e.station
      (e.unaccounted ||| o.kinds) with cycle := c, line := l, lateWatch := w }

/-- Which further tries are allowed (R52). -/
theorem mayRetry_iff (e : Exchange) (o : TryOutcome) :
    e.mayRetry o = true ↔ o.isRetryable = true ∧ e.station ≠ 63 ∧ e.tries < 1 + e.retryLimit ∧ e.orphaned = false
      ∧ ∃ r i, e.source = .ring r i := by
  unfold Exchange.mayRetry Exchange.toStation broadcastAddress
  cases hs : e.source <;> simp [and_assoc]

theorem closes_moved {t v : State} {m n : CycleUnit} (h : t.closes v m) (hv : v.engine = .stopping) :
    t.closes v n := by
  obtain ⟨hx, -, hs⟩ := h
  exact ⟨hx, by simp [hv], hs⟩

section Concluded
variable {s : State} {c : CycleUnit} (l : LineUnit) (x : Option Exchange) (w : Option Address)
  (hc : c.number = s.cycle.number) {e : Exchange} {o : TryOutcome} (p : Option Reply)
  (k : Nat)

theorem during_completes {t : State} {r : Ring} {record : RingRecord} {result : Result} {reply : Option Reply}
    (hc : c.number = s.cycle.number) (h : (during s c l x w).completes t r e record result reply) :
    s.completes t r e record result reply := by
  simpa only [State.completes, State.statusWriteRequest, during_ringUnit, during_fields, hc] using h

theorem during_restages {t : State} {r : Ring} {record : RingRecord}
    (h : (during s c l x w).restages t r e record) : s.restages t r e record := by
  simpa only [State.restages, during_ringUnit, during_fields] using h

theorem during_closes {t v : State} {m : CycleUnit} {x : Option Exchange} (y : Option Exchange)
    (h : t.closes (during v c l x w) m) : t.closes (during v c l y w) m :=
  closes_congr h y v.exmem v.ringU v.ringN v.requests

theorem during_keepsRest {t : State} (h : t.keepsRest (during s c l x w)) : t.keepsRest s := by
  have h' := keepsRest_iff.mp h
  exact keepsRest_iff.mpr h'

theorem during_afterSlotResult (hc : c.number = s.cycle.number) (i : Fin 32) (result : Result) (k : KindSet) :
    (during s c l x w).afterSlotResult i result k = during (s.afterSlotResult i result k) c l x w := by
  simp only [State.afterSlotResult, State.afterSlotEntry, during_fields, hc, during_post]
  split <;> rfl

theorem during_dueSlotFrom (hc : c.number = s.cycle.number) (n : Nat) :
    (during s c l x w).dueSlotFrom n = s.dueSlotFrom n := by
  simp only [State.dueSlotFrom, during_fields, hc]

/-- The stay's end of a try that concludes. -/
theorem handedOn_concluded (hc : c.number = s.cycle.number) (h : e.station ≠ 63) :
    handedOn (during s c l x w) ((e.elapse k).concluded o p)
      = during (concludedAt s c l w e o) c l x w := by
  have h' : ((e.elapse k).concluded o p).station ≠ 63 := h
  rw [during_handedOn s l x w hc, handedOn, if_neg h']
  rfl

/-- A try owed a retry in RUNNING waits in the context (R52). -/
theorem concludeTry_waits (hrun : s.engine = .running) (hm : e.mayRetry o = true) :
    (during s c l x w).concludeTry (e.elapse k) o p = during s c l (some (e.concluded o p)) w := by
  have hm' : (e.concluded o p).mayRetry o = true := hm
  have hsame : (e.elapse k).concluded o p = e.concluded o p := rfl
  simp [State.concludeTry, hsame, hm', hrun, during]

include hc

/-- A try that would be owed a retry returns its record to staging in STOPPING (R52, R54, R184). -/
theorem concludeTry_restages {r : Ring} {i : Byte} {record : RingRecord} (hstop : s.engine = .stopping)
    (hm : e.mayRetry o = true) (hs : e.source = .ring r i) (hcur : (s.ringUnit r).current = some record)
    (m : CycleUnit) :
    ((during s c l x w).concludeTry (e.elapse k) o p).closes (concludedAt s c l w e o) m
      ∧ s.restages ((during s c l x w).concludeTry (e.elapse k) o p) r { e with causes := e.causes ||| o.kinds } record
      ∧ ((during s c l x w).concludeTry (e.elapse k) o p).keepsRest s := by
  have hm' : ((e.elapse k).concluded o p).mayRetry o = true := hm
  have heq : (during s c l x w).concludeTry (e.elapse k) o p = (during s c l x w).returnToStaging ((e.elapse k).concluded o p) := by
    simp [State.concludeTry, hm', hstop]
  obtain ⟨-, hst, -⟩ := (mayRetry_iff e o).mp hm
  obtain ⟨h1, h2, h3, -⟩ := returnToStaging_ring (s := during s c l x w) (e := (e.elapse k).concluded o p) (i := i)
    hs (by simpa using hcur)
  rw [handedOn_concluded l x w p k hc hst] at h1
  rw [heq]
  exact ⟨closes_moved (during_closes l w (x := x) _ h1) (by simp [concludedAt, hstop]), during_restages l x w h2,
    during_keepsRest l x w h3⟩

omit hc in
/-- A try whose exchange ends: no further try is allowed (R52). -/
theorem concludeTry_ends (hm : e.mayRetry o = false) :
    (during s c l x w).concludeTry (e.elapse k) o p = (during s c l x w).endExchange ((e.elapse k).concluded o p) o.result p := by
  have hm' : ((e.elapse k).concluded o p).mayRetry o = false := hm
  simp [State.concludeTry, hm']

variable (hrun : s.engine = .running ∨ s.engine = .stopping)
include hrun

/-- The last try of a ring record's exchange ends it (R52, R57, R125). -/
theorem concludeTry_ring {r : Ring} {i : Byte} {record : RingRecord} (hst : e.station ≠ 63)
    (hm : e.mayRetry o = false) (hs : e.source = .ring r i) (ho : e.orphaned = false)
    (hcur : (s.ringUnit r).current = some record) :
    ((during s c l x w).concludeTry (e.elapse k) o p).closes (concludedAt s c l w e o) c.selecting
      ∧ s.completes ((during s c l x w).concludeTry (e.elapse k) o p) r { e with causes := e.causes ||| o.kinds } record
          o.result p
      ∧ ((during s c l x w).concludeTry (e.elapse k) o p).keepsRest s := by
  rw [concludeTry_ends l x w p k hm]
  obtain ⟨h1, h2, h3⟩ := endExchange_ring (s := during s c l x w) (e := (e.elapse k).concluded o p) (i := i) o.result p
    hrun hs ho (by simpa using hcur)
  rw [handedOn_concluded l x w p k hc hst] at h1
  exact ⟨during_closes l w (x := x) _ h1, during_completes l x w hc h2, during_keepsRest l x w h3⟩

/-- A try of an orphaned exchange ends it, its result discarded (R57, R64). -/
theorem concludeTry_orphan {r : Ring} {i : Byte} (hst : e.station ≠ 63) (hs : e.source = .ring r i)
    (ho : e.orphaned = true) :
    ((during s c l x w).concludeTry (e.elapse k) o p).closes (concludedAt s c l w e o) c.selecting
      ∧ ((during s c l x w).concludeTry (e.elapse k) o p).keepsRings s
      ∧ ((during s c l x w).concludeTry (e.elapse k) o p).keepsRest s := by
  have hm : e.mayRetry o = false := by
    simpa using mt (mayRetry_iff e o).mp (by simp [ho])
  rw [concludeTry_ends l x w p k hm]
  obtain ⟨h1, h2, h3⟩ := endExchange_orphan (s := during s c l x w) (e := (e.elapse k).concluded o p) (i := i) o.result p
    hrun hs ho
  rw [handedOn_concluded l x w p k hc hst] at h1
  exact ⟨during_closes l w (x := x) _ h1, h2, during_keepsRest l x w h3⟩

/-- The one try of a slot ends its exchange (R52, R57, R103, R104, R105). -/
theorem concludeTry_slot {i : Fin 32} {result : Result} (hst : e.station ≠ 63) (hs : e.source = .slot i)
    (hresult : result = if o.result = .ok ∧ s.schedule.held i = true then .okHeld else o.result) :
    ((during s c l x w).concludeTry (e.elapse k) o p).closes
        ((concludedAt s c l w e o).afterSlotResult i result (e.causes ||| o.kinds))
        (c.walkedOn (s.dueSlotFrom (i.val + 1)))
      ∧ ((during s c l x w).concludeTry (e.elapse k) o p).exmem =
          (if result = .ok then
            s.exmem.setBytes (s.schedule.activePage[i]).inOffset.toNat ((p.map (·.payload)).getD [])
          else s.exmem)
      ∧ ((during s c l x w).concludeTry (e.elapse k) o p).keepsRings s
      ∧ State.keepsRest { (during s c l x w).concludeTry (e.elapse k) o p with exmem := s.exmem } s := by
  have hm : e.mayRetry o = false := by
    simpa using mt (mayRetry_iff e o).mp (by simp [hs])
  rw [concludeTry_ends l x w p k hm]
  obtain ⟨h1, h2, h3, h4⟩ := endExchange_slot (s := during s c l x w) (e := (e.elapse k).concluded o p) (result := result)
    o.result p hrun hs hresult
  rw [handedOn_concluded l x w p k hc hst, during_dueSlotFrom l x w hc,
    during_afterSlotResult (s := concludedAt s c l w e o) (c := c) l x w rfl] at h1
  have hz : during ((concludedAt s c l w e o).afterSlotResult i result (e.causes ||| o.kinds)) c l
      ((concludedAt s c l w e o).afterSlotResult i result (e.causes ||| o.kinds)).context w
      = (concludedAt s c l w e o).afterSlotResult i result (e.causes ||| o.kinds) := by
    rw [← during_afterSlotResult (s := concludedAt s c l w e o) (c := c) l _ w rfl]
    simp only [afterSlotResult_frame]
    rfl
  exact ⟨hz ▸ during_closes l w (x := x) _ h1, h2, h3, during_keepsRest l x w h4⟩

/-- A slot's try that fails ends its exchange with that result, and the in-area stands (R52, R57, R104, R105). -/
theorem concludeTry_slot_fails {i : Fin 32} (hst : e.station ≠ 63) (hs : e.source = .slot i) (ho : o.result ≠ .ok) :
    ((during s c l x w).concludeTry (e.elapse k) o p).closes
        ((concludedAt s c l w e o).afterSlotResult i o.result (e.causes ||| o.kinds))
        (c.walkedOn (s.dueSlotFrom (i.val + 1)))
      ∧ ((during s c l x w).concludeTry (e.elapse k) o p).keepsRings s
      ∧ ((during s c l x w).concludeTry (e.elapse k) o p).keepsRest s := by
  obtain ⟨h1, h2, h3, h4⟩ := concludeTry_slot l x w hc p k hrun hst hs (if_neg fun h => ho h.1).symm
  rw [if_neg ho] at h2
  obtain ⟨ha, hb, hd, -, hf⟩ := keepsRest_iff.mp h4
  exact ⟨h1, h3, keepsRest_iff.mpr ⟨ha, hb, hd, h2, hf⟩⟩

end Concluded

end Sys2Proof.Machine.TheCycle
end

section
namespace Sys2Proof.Machine.TheCycle

/-! ### The station records after a stay (R75, R76, R77, R151) -/

/-- A record's place in the lists does not matter to a record that replaces another's. -/
theorem station_setStation_other (s : State) {a b : Address} (h : b ≠ a) (r : Station) :
    (s.setStation a r).station b = s.station b := by
  rw [State.station_setStation, if_neg (by simp [h])]

theorem station_post (s : State) (e : Entry) (a : Address) : (s.post e).station a = s.station a :=
  State.station_congr (by simp) a

theorem station_raise (s : State) (f : IntFlag) (a : Address) : (s.raise f).station a = s.station a := rfl

/-- Adding kinds to a sticky set changes that set of that station alone (R151). -/
theorem addSticky_station (s : State) (a b : Address) (k : KindSet) :
    ∃ sticky, (s.addSticky a k).station b = { s.station b with sticky := sticky }
      ∧ (b ≠ a → sticky = (s.station b).sticky) := by
  unfold State.addSticky
  rw [State.station_setStation]
  split
  · rename_i h
    obtain ⟨rfl, -⟩ := h
    exact ⟨_, rfl, fun h => absurd rfl h⟩
  · exact ⟨_, rfl, fun _ => rfl⟩

/-- An accounting changes the sticky set of its station alone (R151, R153). -/
theorem account_station (s : State) (a b : Address) (k : KindSet) (e : Entry) :
    ∃ sticky, (s.account a k e).station b = { s.station b with sticky := sticky }
      ∧ (b ≠ a → sticky = (s.station b).sticky) := by
  have alert : ∀ z : Entry, z.station = a → ∃ sticky, (s.alert z).station b = { s.station b with sticky := sticky }
      ∧ (b ≠ a → sticky = (s.station b).sticky) := by
    rintro z rfl
    unfold State.alert
    split
    · simpa only [station_post] using addSticky_station (s.post z) z.station b z.causes
    · exact ⟨_, (station_post s z b), fun _ => rfl⟩
  unfold State.account
  split
  · exact ⟨_, rfl, fun _ => rfl⟩
  · dsimp only
    split
    · exact addSticky_station s a b _
    · obtain ⟨x, h1, h2⟩ := alert { e with
        station := a, cycle := s.cycle.number, causes := k &&& (s.station a).alertMask } rfl
      obtain ⟨y, h3, h4⟩ := addSticky_station (s.alert { e with
        station := a, cycle := s.cycle.number, causes := k &&& (s.station a).alertMask }) a b
        (k &&& ~~~(s.station a).alertMask)
      rw [h1] at h3 h4
      exact ⟨y, h3, fun h => (h4 h).trans (h2 h)⟩

theorem afterAccounting_station (s : State) (source : Source) (a b : Address) (k : KindSet) :
    ∃ sticky, (s.afterAccounting source a k).station b = { s.station b with sticky := sticky }
      ∧ (b ≠ a → sticky = (s.station b).sticky) := by
  unfold State.afterAccounting
  split
  · exact ⟨_, rfl, fun _ => rfl⟩
  · cases source with
    | slot i => exact account_station ..
    | ring r i => exact account_station ..
    | rollCall => exact ⟨_, rfl, fun _ => rfl⟩

/-- A supervision update leaves every other record (R75, R76). -/
theorem supervise_station_other (s : State) {a b : Address} (h : b ≠ a) (answered : Bool) :
    (s.supervise a answered).station b = s.station b := by
  unfold State.supervise State.enterLost State.postStation
  dsimp only
  repeat' split
  all_goals simp only [station_post, station_setStation_other s h]

/-- An answered stay makes a station in service ACTIVE (R75). -/
theorem supervise_answered {s : State} {a : Address} (h : (s.station a).state.inService = true) :
    (s.supervise a true).station a = { s.station a with state := .active, missCount := 0 } := by
  simp [State.supervise, h, State.station_setStation, State.station_of_inService h]

/-- A missed stay makes a station in service SUSPECT, or LOST at the miss limit (R76, R77). -/
theorem supervise_missed {s : State} {a : Address} (h : (s.station a).state.inService = true) :
    (s.supervise a false).station a =
      if s.settings.missLimit ≤ (s.station a).missCount + 1 then
        { s.station a with state := .lost, missCount := 0 }
      else { s.station a with state := .suspect, missCount := (s.station a).missCount + 1 } := by
  have hr := State.station_of_inService h
  simp only [State.supervise, h, Bool.not_true, Bool.false_eq_true, if_false]
  split
  · simp [State.enterLost, State.postStation, station_post, State.station_setStation, hr]
  · simp [State.station_setStation, hr]

/-- A stay's end leaves every other station's record (R57). -/
theorem concludedAt_station_other (s : State) (c : CycleUnit) (l : LineUnit) (w : Option Address) (e : Exchange)
    (o : TryOutcome) {a : Address} (h : a ≠ e.station) : (concludedAt s c l w e o).station a = s.station a := by
  obtain ⟨sticky, h1, h2⟩ := afterAccounting_station (s.supervise e.station (e.answered || o.isAnswered)) e.source
    e.station a (e.unaccounted ||| o.kinds)
  rw [h2 h, supervise_station_other s h] at h1
  exact h1

/-- A stay's end leaves its station as the supervision update does, but for the sticky set (R57, R151). -/
theorem concludedAt_station (s : State) (c : CycleUnit) (l : LineUnit) (w : Option Address) (e : Exchange)
    (o : TryOutcome) :
    ((concludedAt s c l w e o).station e.station).state
        = ((s.supervise e.station (e.answered || o.isAnswered)).station e.station).state
      ∧ ((concludedAt s c l w e o).station e.station).missCount
        = ((s.supervise e.station (e.answered || o.isAnswered)).station e.station).missCount := by
  obtain ⟨sticky, h1, -⟩ := afterAccounting_station (s.supervise e.station (e.answered || o.isAnswered)) e.source
    e.station e.station (e.unaccounted ||| o.kinds)
  have h2 : (concludedAt s c l w e o).station e.station = _ := h1
  rw [h2]
  exact ⟨rfl, rfl⟩

/-! ### The end of a cell (R2) -/

/-- The line at the end of a cell's stop bit (R2, R3; log entry 3). -/
def cellEnded (x : LineUnit) (cell : Cell) : LineUnit :=
  { x with
    cell := none, idleRun := 0
    rest := if cell = .bad then .heldAfterBadCell else .resting }

/-- The moment at which a cell in progress has ended. -/
def atCellEnd (s : State) (cell : Cell) (age : Nat) : State :=
  during s (s.cycle.ranOn s.engine (10 - age)) (cellEnded s.line cell)
    (s.context.map (·.elapse (10 - age))) s.lateWatch

/-- Time passing takes with it the cycle, the line and the expiry of the exchange in the context (R21, R42). -/
theorem elapse_eq {s : State} (hi : s.engine ≠ .init) (k : Nat) :
    s.elapse k = during s (s.cycle.ranOn s.engine k) (s.elapse k).line (s.context.map (·.elapse k)) s.lateWatch := by
  rw [← State.elapse_cycle]
  have hx : (s.elapse k).context = s.context.map (·.elapse k) := by
    cases hc : s.context with
    | none => exact State.elapse_context_none hc k
    | some e => exact State.elapse_context_some hc k hi
  rw [← hx]
  unfold State.elapse
  split <;> rfl

/-- Time passing ages a cell in progress and changes nothing else of the line (R2). -/
theorem elapse_line_cell {s : State} {age : Nat} (hi : s.engine ≠ .init) (htx : s.line.tx = none)
    (hcell : s.line.cell = some age) (k : Nat) : (s.elapse k).line = { s.line with cell := some (age + k) } := by
  unfold State.elapse
  split
  · rename_i h
    have hk : k = 0 := by simpa [hi] using h
    simp [hk, ← hcell]
  · simp [LineUnit.elapse, htx, hcell]

/-- A CELL_ARRIVAL takes the time to the cell's end with it, and hands the cell to the receiver (R2). -/
theorem exec_cellArrival {s : State} {age : Nat} (cell : Cell) (hi : s.engine ≠ .init) (htx : s.line.tx = none)
    (hcell : s.line.cell = some age) :
    exec (.cellArrival cell) s = .next ((atCellEnd s cell age).receiveCell cell) := by
  have hend : (s.elapse (10 - age)).endCell cell = atCellEnd s cell age := by
    rw [elapse_eq hi, elapse_line_cell hi htx hcell]
    cases cell <;> rfl
  change execCellArrival cell s = _
  simp only [execCellArrival, State.cellArrives, htx, hcell, Option.isSome_none, Option.isNone_some, cellLeft,
    Config.cellBits, hend, Bool.false_eq_true, if_false]

@[simp] theorem ranOn_number (x : CycleUnit) (engine : Engine) (k : Nat) :
    (x.ranOn engine k).number = x.number := rfl

/-! ### The frame end of an exchange's reply (R18, R44, R46) -/

/-- The line after the last check byte of a frame, with the receiver IDLE again (R18). -/
def frameEnded (x : LineUnit) : LineUnit :=
  { x with cell := none, idleRun := 0, rest := .resting, rx := { x.rx with state := .idle } }

/-- The moment after the last check byte of a reply (R18). -/
abbrev atFrameEnd (s : State) (e : Exchange) (age : Nat) : State :=
  during s (s.cycle.ranOn s.engine (10 - age)) (frameEnded s.line) (some (e.elapse (10 - age))) s.lateWatch

theorem delimits_of_running {s : State} (h : s.engine = .running ∨ s.engine = .stopping) :
    s.engine.delimits = true ∧ s.engine ≠ .init := by
  rcases h with h | h <;> simp [h, Engine.delimits]

/-- The last check byte ends the frame with the verdict of the CRC (R18). -/
theorem exec_lastCheckByte {s : State} {e : Exchange} {b : Byte} {age : Nat}
    (hrun : s.engine = .running ∨ s.engine = .stopping) (htx : s.line.tx = none) (hcell : s.line.cell = some age)
    (hrx : s.line.rx.state = .inFrame) (hcount : s.line.rx.count = 4 + s.line.rx.length.toNat)
    (hx : s.context = some e) :
    exec (.cellArrival (.good b)) s = .next ((atFrameEnd s e age).frameEnd
      (s.line.rx.report (decide (s.line.rx.checkHigh ++ b = s.line.rx.crc)))) := by
  obtain ⟨hd, hi⟩ := delimits_of_running hrun
  rw [exec_cellArrival (.good b) hi htx hcell]
  have h0 : s.line.rx.count ≠ 0 := by omega
  have h1 : s.line.rx.count ≠ 1 := by omega
  have h2 : s.line.rx.count ≠ 2 := by omega
  have h3 : ¬ s.line.rx.count < 3 + s.line.rx.length.toNat := by omega
  have h4 : s.line.rx.count ≠ 3 + s.line.rx.length.toNat := by omega
  simp only [State.receiveCell, atCellEnd, during_fields, hd, hrx, cellEnded, State.takeFrameByte, h0, h1, h2, h3, h4,
    Bool.not_true, Bool.false_eq_true, if_false, hx]
  rfl

/-- A reply that is no roll call's concludes its try, as it is judged (R44, R46). -/
theorem frameEnd_concludes {s : State} {e : Exchange} {age : Nat} (he : e.state = .receiving)
    (hs : e.source ≠ .rollCall) (f : FrameReport) :
    (atFrameEnd s e age).frameEnd f =
      (atFrameEnd s e age).concludeTry (e.elapse (10 - age)) (e.judge f) ((e.judge f).keeps f) := by
  have hr : (atFrameEnd s e age).receiving? = some (e.elapse (10 - age)) := by
    simp [State.receiving?, atFrameEnd, Exchange.elapse, he]
  have hs' : (e.elapse (10 - age)).source ≠ .rollCall := hs
  unfold State.frameEnd
  simp only [hr, hs', if_false]
  rfl

/-- A good frame of the awaited station and tag that fits is a success, or a WARN of condition 1 (R44). -/
theorem judge_success {e : Exchange} {f : FrameReport} (hg : f.good = true) (hk : f.kind = .reply)
    (ha : f.address = e.station) (ht : f.tag = e.tag) (hl : f.payload.length ≤ e.inCapacity)
    (hu : f.upper.toNat ≤ 1) : e.judge f = if f.upper = 1 then .warn else .success := by
  have hu1 : f.upper.toNat = 1 ↔ f.upper = 1 := by
    rw [← BitVec.toNat_inj]; rfl
  have h2 : ¬ 2 ≤ f.upper.toNat := by omega
  simp [Exchange.judge, hg, hk, ha, ht, Nat.not_lt.mpr hl, h2, hu1]

end Sys2Proof.Machine.TheCycle
end

section
namespace Sys2Proof.Machine.TheCycle

/-- A try cannot end its exchange with a retry unless its outcome is retryable (R52). -/
theorem mayRetry_of_not_retryable {e : Exchange} {o : TryOutcome} (h : o.isRetryable = false) :
    e.mayRetry o = false := by simp [Exchange.mayRetry, h]

/-- The outcomes of a good reply: what they add to the causes, and what they hand on (R44, R46, R56). -/
theorem success_outcome {o : TryOutcome} {f : FrameReport} (h : o = if f.upper = 1 then .warn else .success) :
    o.kinds = (if f.upper = 1 then FaultKind.warn.set else 0) ∧ o.isAnswered = true ∧ o.isRetryable = false
      ∧ o.result = .ok ∧ o.keeps f = some { condition := f.upper, payload := f.payload } := by
  subst h
  split <;> exact ⟨rfl, rfl, rfl, rfl, rfl⟩

/-- Without a new late watch, a concluded try's stay hands on what its supervision and its accounting leave. -/
theorem concludedAt_watch (s : State) (c : CycleUnit) (l : LineUnit) (e : Exchange) (o : TryOutcome) :
    concludedAt s c l s.lateWatch e o =
      { (s.supervise e.station (e.answered || o.isAnswered)).afterAccounting e.source e.station
          (e.unaccounted ||| o.kinds) with cycle := c, line := l } := by
  have hw : ((s.supervise e.station (e.answered || o.isAnswered)).afterAccounting e.source e.station
      (e.unaccounted ||| o.kinds)).lateWatch = s.lateWatch := by simp
  rw [concludedAt, ← hw]

/-- Settles O20: the reply is judged a success, so the try concludes its exchange, whose end is that of its source. -/
theorem goodReplyFillsTheInArea : Obligations.GoodReplyFillsTheInArea := by
  intro s u e b age f warn hrun htx hcell hrx hcount hcrc hf hx he h1 h62 hkind haddr htag hlen hupper hwarn hu
  have hst : e.station ≠ 63 := fun h => by simp [h] at h62
  have hgood : f.good = true := by simp [hf, Receiver.report]
  obtain ⟨hkinds, hans, hret, hres, hkeeps⟩ :=
    success_outcome (judge_success hgood hkind haddr htag hlen hupper)
  have hexec := exec_lastCheckByte (b := b) hrun htx hcell hrx hcount hx
  rw [hcrc, decide_eq_true rfl, ← hf] at hexec
  generalize ho : e.judge f = o at *
  obtain rfl : warn = o.kinds := hwarn.trans hkinds.symm
  generalize hp : (some { condition := f.upper, payload := f.payload } : Option Reply) = p at *
  have hconc (hs : e.source ≠ .rollCall) : exec (.cellArrival (.good b)) s =
      .next ((atFrameEnd s e age).concludeTry (e.elapse (10 - age)) o p) := by
    rw [hexec, frameEnd_concludes he hs f, ho, hkeeps]
  have hc : (s.cycle.ranOn s.engine (10 - age)).number = s.cycle.number := rfl
  have hu' : u = concludedAt s (s.cycle.ranOn s.engine (10 - age)) (frameEnded s.line) s.lateWatch e o := by
    rw [hu, concludedAt_watch, hans, Bool.or_true]
    rfl
  have hu_run : u.engine = .running ∨ u.engine = .stopping := by rw [hu]; simpa using hrun
  clear hu
  subst hu'
  have hactive {t v : State} {m : CycleUnit} (hcl : t.closes v m)
      (hve : v.engine = (concludedAt s (s.cycle.ranOn s.engine (10 - age)) (frameEnded s.line) s.lateWatch e o).engine)
      (hvs : v.stations =
        (concludedAt s (s.cycle.ranOn s.engine (10 - age)) (frameEnded s.line) s.lateWatch e o).stations) :
      ((s.station e.station).state.inService = true →
        (t.station e.station).state = .active ∧ (t.station e.station).missCount = 0)
      ∧ ∀ a, a ≠ e.station → t.station a = s.station a := by
    have ht := (closes_stations hcl (hve ▸ hu_run)).trans hvs
    refine ⟨fun hin => ?_, fun a ha => ?_⟩
    · obtain ⟨hstate, hmiss⟩ :=
        concludedAt_station s (s.cycle.ranOn s.engine (10 - age)) (frameEnded s.line) s.lateWatch e o
      rw [State.station_congr ht, hstate, hmiss, hans, Bool.or_true, supervise_answered hin]
      exact ⟨rfl, rfl⟩
    · rw [State.station_congr ht, concludedAt_station_other _ _ _ _ _ _ ha]
  refine ⟨fun i result hs hwf hfit hresult => ?_, fun r i record hs horph hcur => ?_, fun r i hs horph => ?_⟩
  · have hresult' : result = if o.result = .ok ∧ s.schedule.held i = true then .okHeld else o.result := by
      rw [hresult, hres]; cases s.schedule.held i <;> rfl
    obtain ⟨hcl, hmem, hrings, hrest⟩ := concludeTry_slot (frameEnded s.line) (some (e.elapse (10 - age)))
      s.lateWatch hc p (10 - age) hrun hst hs hresult'
    obtain ⟨hact, hother⟩ := hactive hcl (by simp) (by simp)
    refine ⟨_, hconc (by simp [hs]), hcl, fun a ha => ?_, hact, hother, hrings, hrest⟩
    rw [hmem, hresult, ← hp]
    cases s.schedule.held i
    · simpa using Memory.byteAt_setBytes _ a f.payload hwf hfit
    · simp
  · obtain ⟨hcl, hcomp, hrest⟩ := concludeTry_ring (frameEnded s.line) (some (e.elapse (10 - age))) s.lateWatch hc p
      (10 - age) hrun hst (mayRetry_of_not_retryable hret) hs horph hcur
    obtain ⟨hact, hother⟩ := hactive hcl rfl rfl
    rw [hres] at hcomp
    exact ⟨_, hconc (by simp [hs]), hcl, hcomp, hact, hother, hrest⟩
  · obtain ⟨hcl, hrings, hrest⟩ := concludeTry_orphan (frameEnded s.line) (some (e.elapse (10 - age))) s.lateWatch hc p
      (10 - age) hrun hst hs horph
    exact ⟨_, hconc (by simp [hs]), hcl, hrings, hrest⟩

end Sys2Proof.Machine.TheCycle
end

section
namespace Sys2Proof.Machine.TheCycle

/-! ### Faulty replies (R44, R46, R52, R56) -/

/-- The outcome of a frame end is the first of R44's rows whose condition holds. -/
theorem judge_rows (e : Exchange) (f : FrameReport) :
    e.judge f =
      if f.good = false then .check
      else if f.kind ≠ .reply ∨ f.address ≠ e.station then .wrongSender
      else if f.tag ≠ e.tag then .tagMismatch
      else if e.inCapacity < f.payload.length then .overlength
      else if f.upper ∈ [2, 3, 4, 5, 6, 7, 8, 9, 10, 11, 12, 13, 14, 15] then .refused
      else if f.upper = 1 then .warn
      else .success := by
  have h2 : ∀ x : BitVec 4, 2 ≤ x.toNat ↔ x ∈ ([2, 3, 4, 5, 6, 7, 8, 9, 10, 11, 12, 13, 14, 15] : List (BitVec 4)) := by
    decide
  have h1 : ∀ x : BitVec 4, x.toNat = 1 ↔ x = 1 := by decide
  simp only [Exchange.judge, h2, h1, Bool.not_eq_true', Bool.or_eq_true, bne_iff_ne, ne_eq]

/-- What each outcome of a faulty reply adds to the causes, and what its exchange ends with (R44, R46, R56). -/
theorem faulty_outcome {o : TryOutcome} {kinds : KindSet} {result : Result} {answered : Bool}
    (h : (o, kinds, result, answered) ∈
      [(.check, FaultKind.check.set, .badReply, false), (.wrongSender, FaultKind.wrongSender.set, .badReply, false),
        (.tagMismatch, FaultKind.tagMismatch.set, .tagMismatch, true),
        (.overlength, FaultKind.overlength.set, .overlength, true),
        (.refused, FaultKind.refused.set, .refused, true)]) :
    kinds = o.kinds ∧ result = o.result ∧ answered = o.isAnswered ∧ o.result ≠ .ok
      ∧ (o ∈ [.overlength, .refused] → o.isRetryable = false)
      ∧ (∀ f : FrameReport, o.keeps f = if answered then some { condition := f.upper, payload := [] } else none) := by
  simp only [List.mem_cons, Prod.mk.injEq, List.not_mem_nil, or_false] at h
  rcases h with ⟨rfl, rfl, rfl, rfl⟩ | ⟨rfl, rfl, rfl, rfl⟩ | ⟨rfl, rfl, rfl, rfl⟩ | ⟨rfl, rfl, rfl, rfl⟩ |
    ⟨rfl, rfl, rfl, rfl⟩ <;> exact ⟨rfl, rfl, rfl, by decide, by decide, fun _ => rfl⟩

theorem retryable_outcome {o : TryOutcome} (h : o ∈ [.check, .wrongSender, .tagMismatch]) :
    o.isRetryable = true := by
  revert o; decide

/-- No try is left: the exchange ends with this one (R52). -/
theorem mayRetry_of_spent {e : Exchange} {o : TryOutcome} (h : 1 + e.retryLimit ≤ e.tries) :
    e.mayRetry o = false := by simp [Exchange.mayRetry, Nat.not_lt.mpr h]

/-! ### Abandoned replies (R16, R17, R47) -/

/-- A reply is abandoned, at the gap limit, at a bad cell, or at a length above 120: the frame's report follows
(R16, R17). -/
theorem exec_abandons {s : State} {e : Exchange} {c : Instr} {cycle : CycleUnit} {line : LineUnit}
    (hrun : s.engine = .running ∨ s.engine = .stopping) (hx : s.context = some e)
    (h : c = .gapLimitExpiry ∧ s.gapRuns = true ∧ cycle = s.cycle.ranOn s.engine (20 - s.line.idleRun)
          ∧ line = { (s.elapse (20 - s.line.idleRun)).line with rx := { s.line.rx with state := .abandoning } }
        ∨ ∃ cell age, c = .cellArrival cell ∧ s.line.tx = none ∧ s.line.cell = some age
            ∧ s.line.rx.state = .inFrame ∧ cycle = s.cycle.ranOn s.engine (10 - age)
            ∧ (cell = .bad ∧ line = { s.line with
                  cell := none, idleRun := 0, rest := .heldAfterBadCell
                  rx := { s.line.rx with state := .abandoning } }
              ∨ s.line.rx.count = 2 ∧ ∃ b : Byte, cell = .good b ∧ 120 < b.toNat
                  ∧ line = { s.line with
                    cell := none, idleRun := 0, rest := .resting
                    rx := { s.line.rx with
                      state := .abandoning, count := 3, crc := crcByte s.line.rx.crc b, length := b } })) :
    ∃ k, exec c s = .next (during s cycle line (some (e.elapse k)) s.lateWatch).frameAbandoned
      ∧ cycle.number = s.cycle.number := by
  obtain ⟨hd, hi⟩ := delimits_of_running hrun
  rcases h with ⟨rfl, hgap, rfl, rfl⟩ | ⟨cell, age, rfl, htx, hcell, hrx, rfl, h⟩
  · refine ⟨20 - s.line.idleRun, ?_, rfl⟩
    change execGapLimitExpiry s = _
    have hk : s.gapLeft = 20 - s.line.idleRun := rfl
    rw [execGapLimitExpiry, if_pos hgap, hk, State.abandonFrame, elapse_eq hi, hx]
    have hrx : (s.elapse (20 - s.line.idleRun)).line.rx = s.line.rx := by simp
    rw [← hrx]
    rfl
  · rcases h with ⟨rfl, rfl⟩ | ⟨hcount, b, rfl, hb, rfl⟩
    · refine ⟨10 - age, ?_, rfl⟩
      rw [exec_cellArrival .bad hi htx hcell]
      simp only [State.receiveCell, atCellEnd, during_fields, hd, hrx, cellEnded, hx, Bool.not_true,
        Bool.false_eq_true, if_false]
      rfl
    · refine ⟨10 - age, ?_, rfl⟩
      rw [exec_cellArrival (.good b) hi htx hcell]
      have hb' : Config.maxPayload < b.toNat := hb
      simp only [State.receiveCell, atCellEnd, during_fields, hd, hrx, cellEnded, hx, Bool.not_true,
        Bool.false_eq_true, if_false, State.takeFrameByte, hcount, hb', if_true, OfNat.ofNat_ne_zero,
        OfNat.ofNat_ne_one]
      rfl

/-- An abandoned reply that is no roll call's concludes its try FRAMING (R47). -/
theorem frameAbandoned_concludes {s : State} {c : CycleUnit} {l : LineUnit} {w : Option Address} {e : Exchange}
    {k : Nat} (he : e.state = .receiving) (hs : e.source ≠ .rollCall) :
    (during s c l (some (e.elapse k)) w).frameAbandoned
      = (during s c l (some (e.elapse k)) w).concludeTry (e.elapse k) .framing none := by
  have hr : (during s c l (some (e.elapse k)) w).receiving? = some (e.elapse k) := by
    simp [State.receiving?, Exchange.elapse, he]
  have hs' : (e.elapse k).source ≠ .rollCall := hs
  simp only [State.frameAbandoned, hr, hs', if_false]

/-- An abandoned reply of a roll call is a CLASH (R60, R74). -/
theorem frameAbandoned_clashes {s : State} {c : CycleUnit} {l : LineUnit} {w : Option Address} {e : Exchange}
    {k : Nat} (he : e.state = .receiving) (hs : e.source = .rollCall) :
    (during s c l (some (e.elapse k)) w).frameAbandoned
      = ((during s c l (some (e.elapse k)) w).postStation e.station 4 false).emptyContext .rollCall := by
  have hr : (during s c l (some (e.elapse k)) w).receiving? = some (e.elapse k) := by
    simp [State.receiving?, Exchange.elapse, he]
  have hs' : (e.elapse k).source = .rollCall := hs
  simp only [State.frameAbandoned, hr, hs', if_true, State.endRollCall]
  rfl

/-! ### The reply to a roll call (R60, R67 to R74) -/

theorem during_postStation (s : State) {c : CycleUnit} (l : LineUnit) (x : Option Exchange) (w : Option Address)
    (hc : c.number = s.cycle.number) (a : Address) (code : BitVec 5) (d : Bool) :
    (during s c l x w).postStation a code d = during (s.postStation a code d) c l x w := by
  simp only [State.postStation, during_fields, hc, during_post]

/-- A roll call's reply reads nothing of the moment but the cycle number. -/
theorem during_takeRollReply (s : State) {c : CycleUnit} (l : LineUnit) (x : Option Exchange) (w : Option Address)
    (hc : c.number = s.cycle.number) (e : Exchange) (f : FrameReport) :
    (during s c l x w).takeRollReply e f = during (s.takeRollReply e f) c l x w := by
  have hset (a : Address) (r : Station) (code : BitVec 5) (d : Bool) :
      ((during s c l x w).setStation a r).postStation a code d
        = during ((s.setStation a r).postStation a code d) c l x w := by
    rw [during_setStation]
    exact during_postStation _ l x w (by simpa using hc) ..
  have hdup (a : Address) (r : Station) (serial : Word) :
      ((during s c l x w).setStation a r).duplicateSerial a serial = (s.setStation a r).duplicateSerial a serial := by
    rw [during_setStation]; rfl
  unfold State.takeRollReply State.takeIdentity State.join State.rejoin
  simp only [during_station, hset, hdup, during_postStation s l x w hc]
  split
  · split
    · rfl
    · split <;> rfl
    all_goals rfl
  · rfl

/-- A roll call's reply changes the Station Table and what a post changes (R60, R68). -/
theorem takeRollReply_frame (s : State) (e : Exchange) (f : FrameReport) :
    { s.takeRollReply e f with stations := s.stations, queue := s.queue, host := s.host } = s := by
  have hset (a : Address) (r : Station) (code : BitVec 5) (d : Bool) :
      ({ (s.setStation a r).postStation a code d with stations := s.stations, queue := s.queue, host := s.host } :
        State) = s := by
    simp
  have hpost (a : Address) (code : BitVec 5) (d : Bool) :
      ({ s.postStation a code d with stations := s.stations, queue := s.queue, host := s.host } : State) = s := by
    simp
  unfold State.takeRollReply State.takeIdentity State.join State.rejoin
  split
  · dsimp only
    split
    · exact hset ..
    · split <;> exact hset ..
    all_goals rfl
  · exact hpost ..

/-- Replacing a record and a post touch different fields. -/
theorem setStation_post (s : State) (a : Address) (r : Station) (e : Entry) :
    (s.setStation a r).post e = (s.post e).setStation a r := by
  unfold State.setStation
  cases recordIndex? a with
  | none => rfl
  | some i =>
    unfold State.post
    simp only [State.queueFull]
    split
    · rfl
    · split <;> rfl

/-- A record is at the place of its address (R65). -/
theorem station_addressAt (s : State) (i : Fin 62) : s.station (addressAt i) = s.stations[i] := by
  have hn : (addressAt i).toNat = i.val + 1 := by
    have := i.isLt
    simp only [addressAt, BitVec.toNat_ofNat]
    omega
  have hi : recordIndex? (addressAt i) = some i := by
    rw [recordIndex?_station (by omega) (by omega)]
    simp [hn]
  simp [State.station, hi]

theorem identity_any_serial (x : Option Identity) (serial : Word) :
    x.any (·.serial = serial) = true ↔ x.map (·.serial) = some serial := by
  cases x <;> simp

/-- The duplicate check looks at the other addresses alone, whatever the joining record has become (R70). -/
theorem duplicateSerial_setStation (s : State) (a : Address) (r : Station) (serial : Word) :
    (s.setStation a r).duplicateSerial a serial =
      decide (∃ i : Fin 62, BitVec.ofNat 6 (i.val + 1) ≠ a ∧ (s.stations[i]).state ≠ .absent
        ∧ (s.stations[i]).identity.map (·.serial) = some serial) := by
  rw [Bool.eq_iff_iff, decide_eq_true_eq]
  unfold State.duplicateSerial
  simp only [List.any_eq_true, List.mem_finRange, true_and, Bool.and_eq_true, bne_iff_ne, ne_eq,
    identity_any_serial, and_assoc]
  refine exists_congr fun i => and_congr_right fun hne => ?_
  rw [← station_addressAt, ← station_addressAt, station_setStation_other s hne]

/-- The nine bytes of an identity reply (R67). -/
theorem identityOf_bytes {payload : List Byte} {id : Identity} (hlen : payload.length = 9)
    (hid : ∀ p0 p1 p2 p3 p4 p5 p6 p7 p8 : Byte, payload = [p0, p1, p2, p3, p4, p5, p6, p7, p8] →
      id = { type := p1 ++ p0, revision := p3 ++ p2, serial := p7 ++ p6 ++ p5 ++ p4
             maxPayload := min p8.toNat 120 }) : identityOf payload = id := by
  match payload, hlen with
  | [p0, p1, p2, p3, p4, p5, p6, p7, p8], _ => exact (hid p0 p1 p2 p3 p4 p5 p6 p7 p8 rfl).symm

/-- The frame end of a roll call's reply evaluates it and empties the context (R59, R60). -/
theorem frameEnd_rollCall {s : State} {e : Exchange} {age : Nat} (he : e.state = .receiving)
    (hs : e.source = .rollCall) (f : FrameReport) :
    (atFrameEnd s e age).frameEnd f =
      (during (s.takeRollReply e f) (s.cycle.ranOn s.engine (10 - age)) (frameEnded s.line)
        (some (e.elapse (10 - age))) s.lateWatch).emptyContext .rollCall := by
  have hr : (atFrameEnd s e age).receiving? = some (e.elapse (10 - age)) := by
    simp [State.receiving?, Exchange.elapse, he]
  have hs' : (e.elapse (10 - age)).source = .rollCall := hs
  have hsame : s.takeRollReply (e.elapse (10 - age)) f = s.takeRollReply e f := rfl
  rw [← hsame, ← during_takeRollReply s _ _ _ (ranOn_number s.cycle s.engine (10 - age))]
  unfold State.frameEnd State.endRollCall
  simp only [hr, hs', if_true]

section RollReply
variable {s : State} {e : Exchange} {f : FrameReport}

/-- Which frames are an IDENTITY (R60, R68). -/
theorem takeRollReply_identity
    (h : f.good = true ∧ f.kind = .roll ∧ f.address = e.station ∧ f.payload.length = 9) :
    s.takeRollReply e f = s.takeIdentity e.station (identityOf f.payload) := by
  obtain ⟨hg, hk, ha, hl⟩ := h
  simp [State.takeRollReply, hg, hk, ha, hl]

/-- Any other frame is a CLASH (R60, R74). -/
theorem takeRollReply_clash
    (h : ¬(f.good = true ∧ f.kind = .roll ∧ f.address = e.station ∧ f.payload.length = 9)) :
    s.takeRollReply e f = s.post { Entry.blank .station 4 s.cycle.number with station := e.station } := by
  unfold State.takeRollReply
  rw [if_neg (by simpa [and_assoc] using h)]
  rfl

theorem postStation_setStation (s : State) (a : Address) (r : Station) (code : BitVec 5) (d : Bool) :
    (s.setStation a r).postStation a code d
      = (s.post { Entry.blank .station code s.cycle.number with station := a, duplicate := d }).setStation a r := by
  rw [State.postStation, setStation_post]
  simp

/-- An ABSENT station, or a LOST one of another serial, joins (R69, R70, R72). -/
theorem takeIdentity_joins {a : Address} {id : Identity}
    (h : (s.station a).state = .absent
      ∨ (s.station a).state = .lost ∧ (s.station a).identity.map (·.serial) ≠ some id.serial) :
    s.takeIdentity a id =
      (s.post { Entry.blank .station 1 s.cycle.number with
        station := a
        duplicate := decide (∃ i : Fin 62, BitVec.ofNat 6 (i.val + 1) ≠ a ∧ (s.stations[i]).state ≠ .absent
          ∧ (s.stations[i]).identity.map (·.serial) = some id.serial) }).setStation a
        { s.station a with state := .joining, identity := some id, nextTag := 0, missCount := 0 } := by
  have hjoin : s.takeIdentity a id = s.join a id := by
    unfold State.takeIdentity
    rcases h with h | ⟨h, hn⟩
    · simp [h]
    · have hn' := mt (identity_any_serial _ _).mp hn
      simp only [h, hn', Bool.false_eq_true, if_false]
  rw [hjoin, State.join, duplicateSerial_setStation, postStation_setStation]

/-- A LOST station of the same serial rejoins (R71). -/
theorem takeIdentity_rejoins {a : Address} {id : Identity} (h : (s.station a).state = .lost)
    (hserial : (s.station a).identity.map (·.serial) = some id.serial) :
    s.takeIdentity a id =
      (s.post { Entry.blank .station 2 s.cycle.number with station := a }).setStation a
        { s.station a with state := .active, identity := some id, nextTag := 0, missCount := 0 } := by
  have hany := (identity_any_serial _ _).mpr hserial
  simp only [State.takeIdentity, h, hany, if_true, State.rejoin]
  exact postStation_setStation ..

/-- An IDENTITY in any other state changes nothing (R68). -/
theorem takeIdentity_discards {a : Address} {id : Identity}
    (h : (s.station a).state ∈ [.barred, .joining, .active, .suspect]) : s.takeIdentity a id = s := by
  simp only [List.mem_cons, List.not_mem_nil, or_false] at h
  rcases h with h | h | h | h <;> simp [State.takeIdentity, h]

/-- A roll call's reply leaves every other station's record (R60, R68). -/
theorem takeRollReply_station_other {a : Address} (h : a ≠ e.station) :
    (s.takeRollReply e f).station a = s.station a := by
  by_cases hid : f.good = true ∧ f.kind = .roll ∧ f.address = e.station ∧ f.payload.length = 9
  · rw [takeRollReply_identity hid]
    unfold State.takeIdentity State.join State.rejoin
    simp only [postStation_setStation]
    split
    · rw [station_setStation_other _ h, station_post]
    · split <;> rw [station_setStation_other _ h, station_post]
    all_goals rfl
  · rw [takeRollReply_clash hid, station_post]

end RollReply

end Sys2Proof.Machine.TheCycle
end

section
namespace Sys2Proof.Machine.TheCycle

theorem station_ne_broadcast {a : Address} (h : a.toNat ≤ 62) : a ≠ 63 := fun h63 => by simp [h63] at h

/-- Settles O31: every end of a frame concludes its try or evaluates a roll call's reply, and the exchange's end is
then that of its source. -/
theorem frameEndsAreJudgedInOrder : Obligations.FrameEndsAreJudgedInOrder := by
  refine ⟨judge_rows, ?_, ?_, ?_⟩
  · intro s u e b age f o kinds result answered reply hrun htx hcell hrx hcount hf hx he h1 h62 ho hlist hreply hu
    have hst := station_ne_broadcast h62
    obtain ⟨rfl, rfl, rfl, hne, hspent, hkeeps⟩ := faulty_outcome hlist
    rw [← hkeeps f] at hreply
    have hc : (s.cycle.ranOn s.engine (10 - age)).number = s.cycle.number := rfl
    have hconc (hs : e.source ≠ .rollCall) : exec (.cellArrival (.good b)) s =
        .next ((atFrameEnd s e age).concludeTry (e.elapse (10 - age)) o reply) := by
      rw [exec_lastCheckByte hrun htx hcell hrx hcount hx, ← hf, frameEnd_concludes he hs f, ← ho, hreply]
    obtain rfl : u = concludedAt s (s.cycle.ranOn s.engine (10 - age)) (frameEnded s.line) s.lateWatch e o := by
      rw [hu, concludedAt_watch]; rfl
    refine ⟨fun r i hr hs horph htries hret => ?_, fun r i record hstop hs horph htries hret hcur => ?_,
      fun r i record hs horph hcur hend => ?_, fun r i hs horph => ?_, fun i hs => ?_⟩
    · have hm : e.mayRetry o = true := (mayRetry_iff e o).mpr ⟨retryable_outcome hret, hst, htries, horph, r, i, hs⟩
      rw [hconc (by simp [hs]), concludeTry_waits _ _ _ _ _ hr hm]
      exact ⟨_, rfl, rfl, rfl, rfl, rfl⟩
    · have hm : e.mayRetry o = true := (mayRetry_iff e o).mpr ⟨retryable_outcome hret, hst, htries, horph, r, i, hs⟩
      exact ⟨_, hconc (by simp [hs]), concludeTry_restages _ _ _ hc _ _ hstop hm hs hcur _⟩
    · have hm : e.mayRetry o = false := hend.elim mayRetry_of_spent fun h => mayRetry_of_not_retryable (hspent h)
      exact ⟨_, hconc (by simp [hs]), concludeTry_ring _ _ _ hc _ _ hrun hst hm hs horph hcur⟩
    · exact ⟨_, hconc (by simp [hs]), concludeTry_orphan _ _ _ hc _ _ hrun hst hs horph⟩
    · exact ⟨_, hconc (by simp [hs]), concludeTry_slot_fails _ _ _ hc _ _ hrun hst hs hne⟩
  · intro s u e c cycle line hrun hx he hevent hu
    obtain ⟨k, hexec, hc⟩ := exec_abandons hrun hx hevent
    have hconc (hs : e.source ≠ .rollCall) : exec c s =
        .next ((during s cycle line (some (e.elapse k)) s.lateWatch).concludeTry (e.elapse k) .framing none) := by
      rw [hexec, frameAbandoned_concludes he hs]
    obtain rfl : u = concludedAt s cycle line s.lateWatch e .framing := by
      rw [hu, concludedAt_watch, show TryOutcome.framing.isAnswered = false from rfl, Bool.or_false]; rfl
    refine ⟨fun hs => ?_, fun r i record hstop hs hst horph htries hcur => ?_,
      fun r i record hs hst horph hcur hend => ?_, fun r i hs hst horph => ?_, fun i hs hst => ?_⟩
    · rw [hexec, frameAbandoned_clashes he hs, during_postStation s _ _ _ hc]
      have hcl := State.emptyContext_closes (s := during (s.postStation e.station 4 false) cycle line
        (some (e.elapse k)) s.lateWatch) (source := .rollCall) (by simpa using hrun) (by simp)
      have hw : (s.postStation e.station 4 false).lateWatch = s.lateWatch := by simp
      refine ⟨_, rfl, ?_, by simp [State.keepsRings], by simp [keepsRest_iff, during]⟩
      rw [← hw] at hcl ⊢
      exact during_closes line _ (s.postStation e.station 4 false).context hcl
    · have hm : e.mayRetry .framing = true := (mayRetry_iff e .framing).mpr ⟨rfl, hst, htries, horph, r, i, hs⟩
      exact ⟨_, hconc (by simp [hs]), concludeTry_restages _ _ _ hc _ _ hstop hm hs hcur _⟩
    · exact ⟨_, hconc (by simp [hs]), concludeTry_ring _ _ _ hc _ _ hrun hst (mayRetry_of_spent hend) hs horph hcur⟩
    · exact ⟨_, hconc (by simp [hs]), concludeTry_orphan _ _ _ hc _ _ hrun hst hs horph⟩
    · exact ⟨_, hconc (by simp [hs]), concludeTry_slot_fails _ _ _ hc _ _ hrun hst hs (by decide)⟩
  · intro s e b age f identity id duplicate hrun htx hcell hrx hcount hf hx he hs h1 h62 hidentity hid hdup
    have hc : (s.cycle.ranOn s.engine (10 - age)).number = s.cycle.number := rfl
    have hexec : exec (.cellArrival (.good b)) s = .next
        ((during (s.takeRollReply e f) (s.cycle.ranOn s.engine (10 - age)) (frameEnded s.line)
          (some (e.elapse (10 - age))) s.lateWatch).emptyContext .rollCall) := by
      rw [exec_lastCheckByte hrun htx hcell hrx hcount hx, ← hf, frameEnd_rollCall he hs]
    have hframe {α : Type} (g : State → α) := congrArg g (takeRollReply_frame s e f)
    have hrest : (s.takeRollReply e f).keepsRest s := keepsRest_iff.mpr ⟨hframe State.resetAsserted,
      hframe State.settings, hframe State.stationSelect, hframe State.exmem, hframe State.exmemAddr,
      hframe State.orderIndex, hframe State.pending⟩
    have hengine : (s.takeRollReply e f).engine = s.engine := hframe State.engine
    have hU : (s.takeRollReply e f).ringU = s.ringU := hframe State.ringU
    have hN : (s.takeRollReply e f).ringN = s.ringN := hframe State.ringN
    have hQ : (s.takeRollReply e f).requests = s.requests := hframe State.requests
    refine ⟨_, _, hexec, State.emptyContext_closes (by simpa [hengine] using hrun) (by simp),
      by simp [State.keepsRings, hU, hN, hQ], by simpa [keepsRest_iff, during] using hrest,
      congrArg (during · (s.cycle.ranOn s.engine (10 - age)) (frameEnded s.line) (some (e.elapse (10 - age)))
        s.lateWatch) (takeRollReply_frame s e f), fun hn => ?_, fun h hstate => ?_, fun h hlost hserial => ?_,
      fun h hstate => ?_, fun a ha => takeRollReply_station_other ha⟩
    · rw [takeRollReply_clash (mt hidentity.mpr hn)]
      exact ⟨rfl, rfl, rfl⟩
    · have hf' := hidentity.mp h
      have ⟨_, _, _, hlength⟩ := hf'
      rw [takeRollReply_identity hf', identityOf_bytes hlength hid, takeIdentity_joins hstate, ← hdup]
      refine ⟨?_, by simp, by simp⟩
      rw [during_station, State.station_setStation, if_pos ⟨rfl, h1, h62⟩]
    · have hf' := hidentity.mp h
      have ⟨_, _, _, hlength⟩ := hf'
      rw [takeRollReply_identity hf', identityOf_bytes hlength hid, takeIdentity_rejoins hlost hserial]
      refine ⟨?_, by simp, by simp⟩
      rw [during_station, State.station_setStation, if_pos ⟨rfl, h1, h62⟩]
    · rw [takeRollReply_identity (hidentity.mp h), takeIdentity_discards hstate]
      exact ⟨rfl, rfl, rfl⟩

end Sys2Proof.Machine.TheCycle
end

section
namespace Sys2Proof.Machine.TheCycle

/-! ### The window expiry (R42, R45, R48) -/

/-- The window runs while a reply is awaited and no cell in progress holds the expiry (R42). -/
theorem windowLeft?_iff (s : State) (k : Nat) :
    s.windowLeft? = some k ↔
      ∃ e left, s.context = some e ∧ e.state = .awaitingReply ∧ s.line.cell = none ∧ e.expiry = some left
        ∧ k = left.toNat := by
  unfold State.windowLeft?
  cases s.context with
  | none => simp
  | some e =>
    by_cases h : e.state = .awaitingReply ∧ s.line.cell = none
    · simp [h, eq_comm]
    · simp only [Option.some.injEq, exists_and_left, exists_eq_left']
      rw [if_neg (by simpa using h)]
      simp only [reduceCtorEq, false_iff]
      exact fun ⟨h1, h2, _⟩ => h ⟨h1, h2⟩

theorem inService_iff (x : StationState) : x.inService = true ↔ x ∈ [.active, .suspect] := by
  cases x <;> decide

/-- The moment at which the expiry is taken: at WINDOW_EXPIRY, or at the arrival of the cell that held it (R42,
R45). -/
theorem exec_expires {s : State} {e : Exchange} {c : Instr} {k : Nat} {line : LineUnit}
    (hx : s.context = some e) (hrun : s.engine = .running ∨ s.engine = .stopping) (htx : s.line.tx = none)
    (h : c = .windowExpiry ∧ s.windowLeft? = some k ∧ line = (s.elapse k).line
      ∨ ∃ cell age left, c = .cellArrival cell ∧ s.line.cell = some age ∧ k = 10 - age
          ∧ e.state = .awaitingReply ∧ e.expiry = some left ∧ left < (k : Int)
          ∧ (s.line.rx.state = .abandoning ∨ s.line.rx.state = .idle ∧ cell ≠ .good 0x96)
          ∧ line = { s.line with
              cell := none, idleRun := 0
              rest := if cell = .bad then .heldAfterBadCell else .resting }) :
    exec c s = .next ((during s (s.cycle.ranOn s.engine k) line (some (e.elapse k)) s.lateWatch).takeExpiry
      (e.elapse k)) := by
  obtain ⟨hd, hi⟩ := delimits_of_running hrun
  rcases h with ⟨rfl, hleft, rfl⟩ | ⟨cell, age, left, rfl, hcell, rfl, hstate, hexp, hlt, hrx, rfl⟩
  · have hk : (s.elapse k).context = some (e.elapse k) := State.elapse_context_some hx k hi
    change execWindowExpiry s = _
    simp only [execWindowExpiry, hleft, hk]
    conv_lhs => rw [elapse_eq hi, hx]
    rfl
  · have hheld : (e.elapse (10 - age)).state = .awaitingReply
        ∧ (e.elapse (10 - age)).expiry.any (· < 0) = true := by
      refine ⟨hstate, ?_⟩
      simp only [Exchange.elapse, hexp, Option.map_some, Option.any_some, decide_eq_true_eq]
      omega
    have htake : (atCellEnd s cell age).takeHeldExpiry = (atCellEnd s cell age).takeExpiry (e.elapse (10 - age)) := by
      simp only [State.takeHeldExpiry, atCellEnd, during_fields, hx, Option.map_some, hheld, decide_true,
        Bool.and_self, if_true]
    have hcellEnd : atCellEnd s cell age = during s (s.cycle.ranOn s.engine (10 - age)) (cellEnded s.line cell)
        (some (e.elapse (10 - age))) s.lateWatch := by rw [atCellEnd, hx]; rfl
    rw [exec_cellArrival cell hi htx hcell]
    change _ = Host.Outcome.next ((during s (s.cycle.ranOn s.engine (10 - age)) (cellEnded s.line cell)
      (some (e.elapse (10 - age))) s.lateWatch).takeExpiry (e.elapse (10 - age)))
    rw [← hcellEnd, ← htake]
    have hrx' : (atCellEnd s cell age).line.rx.state = s.line.rx.state := rfl
    have hd' : (atCellEnd s cell age).engine.delimits = true := hd
    simp only [State.receiveCell, hd', hrx', Bool.not_true, Bool.false_eq_true, if_false]
    rcases hrx with hrx | ⟨hrx, hne⟩
    · simp only [hrx]
    · cases cell with
      | bad => simp only [hrx]
      | good b =>
        have hb : b ≠ Config.syncByte := fun h => hne (by rw [h]; rfl)
        simp only [hrx, hb, if_false]

/-- The expiry of a try concludes it NO_REPLY under a new late watch (R45, R48). -/
theorem takeExpiry_concludes {s : State} {c : CycleUnit} {l : LineUnit} {w : Option Address} {e : Exchange} {k : Nat}
    (hs : e.source ≠ .rollCall) :
    (during s c l (some (e.elapse k)) w).takeExpiry (e.elapse k)
      = (during s c l (some (e.elapse k)) (some e.station)).concludeTry (e.elapse k) .noReply none := by
  have hs' : (e.elapse k).source ≠ .rollCall := hs
  rw [State.takeExpiry, if_neg hs']
  rfl

/-- The expiry of a roll call ends it with no effect (R59). -/
theorem takeExpiry_rollCall {s : State} {c : CycleUnit} {l : LineUnit} {w : Option Address} {e : Exchange} {k : Nat}
    (hs : e.source = .rollCall) :
    (during s c l (some (e.elapse k)) w).takeExpiry (e.elapse k)
      = (during s c l (some (e.elapse k)) w).emptyContext .rollCall := by
  have hs' : (e.elapse k).source = .rollCall := hs
  rw [State.takeExpiry, if_pos hs', State.endRollCall, hs']

/-- Settles O32: the expiry concludes the try NO_REPLY, and the exchange's end is that of its source. -/
theorem windowExpiryIsNoReply : Obligations.WindowExpiryIsNoReply := by
  refine ⟨windowLeft?_iff, ?_⟩
  intro s u v e c k line causes unaccounted hx hrun htx hevent hcauses hunacc hv hu
  have hexec := exec_expires hx hrun htx hevent
  have hc : (s.cycle.ranOn s.engine k).number = s.cycle.number := rfl
  have hconc (hs : e.source ≠ .rollCall) : exec c s = .next
      ((during s (s.cycle.ranOn s.engine k) line (some (e.elapse k)) (some e.station)).concludeTry (e.elapse k)
        .noReply none) := by
    rw [hexec, takeExpiry_concludes hs]
  obtain rfl : u = concludedAt s (s.cycle.ranOn s.engine k) line (some e.station) e .noReply := by
    rw [hu, hunacc, hv, concludedAt, show TryOutcome.noReply.isAnswered = false from rfl, Bool.or_false]; rfl
  subst hv hcauses
  refine ⟨fun r i hr hs hst horph htries => ?_, fun r i record hstop hs hst horph htries hcur => ?_,
    fun r i record hs hst horph hend hcur => ?_, fun r i hs hst horph => ?_, fun i hs hst => ?_, fun hs => ?_⟩
  · have hm : e.mayRetry .noReply = true := (mayRetry_iff e _).mpr ⟨rfl, hst, htries, horph, r, i, hs⟩
    rw [hconc (by simp [hs]), concludeTry_waits _ _ _ _ _ hr hm]
    refine ⟨_, rfl, ?_, rfl, rfl, rfl, rfl⟩
    simp only [during_fields, Exchange.concluded, show TryOutcome.noReply.isAnswered = false from rfl, Bool.or_false,
      hunacc]
    rfl
  · have hm : e.mayRetry .noReply = true := (mayRetry_iff e _).mpr ⟨rfl, hst, htries, horph, r, i, hs⟩
    exact ⟨_, hconc (by simp [hs]), concludeTry_restages _ _ _ hc _ _ hstop hm hs hcur _⟩
  · exact ⟨_, hconc (by simp [hs]), concludeTry_ring _ _ _ hc _ _ hrun hst (mayRetry_of_spent hend) hs horph hcur⟩
  · exact ⟨_, hconc (by simp [hs]), concludeTry_orphan _ _ _ hc _ _ hrun hst hs horph⟩
  · obtain ⟨hcl, hrings, hrest⟩ := concludeTry_slot_fails line (some (e.elapse k)) (some e.station) hc none k hrun hst
      hs (show TryOutcome.noReply.result ≠ .ok by decide)
    have hstations := closes_stations hcl (by simpa [concludedAt] using hrun)
    simp only [afterSlotResult_frame] at hstations
    refine ⟨_, hconc (by simp [hs]), hcl, fun h1 h62 hans hstate => ?_, fun a ha => ?_, hrings, hrest⟩
    · obtain ⟨hst', hmiss⟩ := concludedAt_station s (s.cycle.ranOn s.engine k) line (some e.station) e .noReply
      rw [hans, show (false || TryOutcome.noReply.isAnswered) = false from rfl,
        supervise_missed ((inService_iff _).mpr hstate)] at hst' hmiss
      rw [State.station_congr hstations, hst', hmiss]
      refine ⟨fun hlt => ?_, fun hle => ?_⟩
      · rw [if_neg (Nat.not_le.mpr hlt)]
        exact ⟨rfl, rfl⟩
      · rw [if_pos hle]
        exact ⟨rfl, rfl⟩
    · rw [State.station_congr hstations, concludedAt_station_other _ _ _ _ _ _ ha]
  · rw [hexec, takeExpiry_rollCall hs]
    have hcl := State.emptyContext_closes (s := during s (s.cycle.ranOn s.engine k) line (some (e.elapse k))
      s.lateWatch) (source := .rollCall) hrun (by simp)
    exact ⟨_, rfl, during_closes line _ s.context hcl, by simp [State.keepsRings], by simp [keepsRest_iff, during]⟩

end Sys2Proof.Machine.TheCycle
end

section
namespace Sys2Proof.Machine.TheCycle

/-! ### A try begins (R41, R50, R51) -/

/-- Replacing a record by itself changes nothing. -/
theorem setStation_self (s : State) (a : Address) : s.setStation a (s.station a) = s := by
  unfold State.setStation State.station
  cases recordIndex? a with
  | none => rfl
  | some i => simp

/-- The tag of a try of an exchange with a station: the exchange's own while the station's next tag is one past it, and
otherwise the station's next tag (R50, R51). -/
def tryTag (s : State) (e : Exchange) : BitVec 3 :=
  if e.tries ≠ 0 ∧ (s.station e.station).nextTag = e.tag + 1 then e.tag else (s.station e.station).nextTag

/-- A later try that finds the next tag moved on is reissued (R51). -/
def tryReissued (s : State) (e : Exchange) : Bool :=
  e.reissued || decide (e.tries ≠ 0 ∧ (s.station e.station).nextTag ≠ e.tag + 1)

/-- The exchange in the context once its try has begun (R41). -/
def tryBegun (e : Exchange) (tag : BitVec 3) (reissued : Bool) (window : Nat) : Exchange :=
  { e with
    tag := tag, reissued := reissued, window := window, tries := e.tries + 1, last := none, reply := none
    expiry := none, state := .transmitting }

/-- A try of an exchange with a station takes its tag, and the station's next tag is one past it (R50, R51). -/
theorem takeTag_station {s : State} {e : Exchange} (hs : e.source ≠ .rollCall) (hst : e.station ≠ 63) :
    s.takeTag e = (s.setStation e.station { s.station e.station with nextTag := tryTag s e + 1 },
      { e with tag := tryTag s e, reissued := tryReissued s e }) := by
  have hto : e.toStation = true := by
    simp only [Exchange.toStation, Bool.and_eq_true, bne_iff_ne]
    exact ⟨hs, hst⟩
  unfold State.takeTag tryTag tryReissued
  simp only [hto, Bool.not_true, Bool.false_eq_true, if_false]
  by_cases h : e.tries ≠ 0 ∧ (s.station e.station).nextTag = e.tag + 1
  · have hsame : { s.station e.station with nextTag := e.tag + 1 } = s.station e.station := by rw [← h.2]
    rw [if_pos h, if_pos h, hsame, setStation_self]
    simp [h.2]
  · rw [if_neg h, if_neg h]
    have hre : decide (e.tries ≠ 0 ∧ (s.station e.station).nextTag ≠ e.tag + 1) = decide (e.tries ≠ 0) := by
      by_cases h0 : e.tries = 0
      · simp [h0]
      · simp [h0] at h ⊢
        exact h
    rw [hre]

/-- The beginning of a try of an exchange with a station (R41, R50, R51). -/
theorem beginTry_station {s : State} {e : Exchange} (hs : e.source ≠ .rollCall) (hst : e.station ≠ 63) :
    s.beginTry e = during (s.setStation e.station { s.station e.station with nextTag := tryTag s e + 1 }) s.cycle
      (s.line.sending .attempt (requestFrame e.station (tryTag s e) e.stale e.function e.outData))
      (some (tryBegun e (tryTag s e) (tryReissued s e) (s.station e.station).window)) none := by
  have hw : ((s.setStation e.station { s.station e.station with nextTag := tryTag s e + 1 }).station
      e.station).window = (s.station e.station).window := by
    rw [State.station_setStation]; split <;> rfl
  simp only [State.beginTry, takeTag_station hs hst, State.tryWindow, hs, broadcastAddress, hst, if_false, hw,
    Exchange.frame]
  have hline (r : Station) : (s.setStation e.station r).line = s.line := by simp
  have hcycle (r : Station) : (s.setStation e.station r).cycle = s.cycle := by simp
  rw [← hline, ← hcycle]
  rfl

/-- The beginning of a broadcast, which touches no station (R50, R58). -/
theorem beginTry_broadcast {s : State} {e : Exchange} (hs : e.source ≠ .rollCall) (hst : e.station = 63) :
    s.beginTry e = during s s.cycle
      (s.line.sending .attempt (requestFrame e.station 0 e.stale e.function e.outData))
      (some (tryBegun e 0 e.reissued 0)) none := by
  have hto : e.toStation = false := by simp [Exchange.toStation, broadcastAddress, hst]
  have htag : s.takeTag e = (s, { e with tag := 0 }) := by simp [State.takeTag, hto]
  have hwindow : s.tryWindow { e with tag := 0 } = 0 := by simp [State.tryWindow, hs, hst, broadcastAddress]
  have hframe : (tryBegun e 0 e.reissued 0).frame = requestFrame e.station 0 e.stale e.function e.outData := if_neg hs
  simp only [State.beginTry, htag, hwindow]
  rw [← hframe]
  rfl

/-- The beginning of a roll call, which carries no tag (R8, R41, R50). -/
theorem beginTry_rollCall {s : State} {e : Exchange} (hs : e.source = .rollCall) :
    s.beginTry e = during s s.cycle (s.line.sending .attempt (rollFrame e.station))
      (some (tryBegun e 0 e.reissued s.settings.rollWindow)) none := by
  have hto : e.toStation = false := by simp [Exchange.toStation, hs]
  have htag : s.takeTag e = (s, { e with tag := 0 }) := by simp [State.takeTag, hto]
  have hwindow : s.tryWindow { e with tag := 0 } = s.settings.rollWindow := if_pos hs
  have hframe : (tryBegun e 0 e.reissued s.settings.rollWindow).frame = rollFrame e.station := if_pos hs
  simp only [State.beginTry, htag, hwindow]
  rw [← hframe]
  rfl

/-- Replacing a record changes the Station Table alone (R65). -/
theorem setStation_eq (s : State) (a : Address) (r : Station) :
    s.setStation a r = { s with stations := (s.setStation a r).stations } := by
  unfold State.setStation
  split <;> rfl

/-- What the beginning of a try changes (R41). -/
theorem beginTry_fields (s : State) (e : Exchange) : ∃ stations line context,
    s.beginTry e = { s with stations := stations, line := line, context := context, lateWatch := none } := by
  by_cases hs : e.source = .rollCall
  · rw [beginTry_rollCall hs]
    exact ⟨_, _, _, rfl⟩
  · by_cases hst : e.station = 63
    · rw [beginTry_broadcast hs hst]
      exact ⟨_, _, _, rfl⟩
    · rw [beginTry_station hs hst, setStation_eq]
      exact ⟨_, _, _, rfl⟩

end Sys2Proof.Machine.TheCycle
end

section
namespace Sys2Proof.Machine.TheCycle

/-- The tests of an owed retry of an exchange with a station (R53). -/
theorem retryMayBegin_iff {s : State} {e : Exchange} (hst : e.station ≠ 63) :
    s.retryMayBegin e = true ↔ s.engine = .running ∧ (s.station e.station).state ∈ [.active, .suspect]
      ∧ s.cycle.clock + (10 * (12 + e.outData.length + e.inCapacity) + (s.station e.station).window)
          + s.settings.guard ≤ s.settings.period := by
  unfold State.retryMayBegin State.fits State.budgetTo requestBudget broadcastAddress
  rw [if_neg hst]
  simp only [Bool.and_eq_true, decide_eq_true_eq, inService_iff, and_assoc]

/-- A retry that does not begin leaves every other station's record (R54). -/
theorem handedOn_station_other (s : State) (e : Exchange) {a : Address} (h : a ≠ e.station) :
    (handedOn s e).station a = s.station a := by
  obtain ⟨sticky, h1, h2⟩ := afterAccounting_station
    (if e.station = 63 then s else s.supervise e.station e.answered) e.source e.station a e.unaccounted
  rw [h2 h] at h1
  refine h1.trans ?_
  split
  · rfl
  · exact supervise_station_other s h _

/-- Settles O33: the retry begins as a try, or the record returns to staging. -/
theorem retryBeginsOrReturnsToStaging : Obligations.RetryBeginsOrReturnsToStaging := by
  intro s u e r i record hu hcan hx hs h1 h62 htries hcur
  have hst := station_ne_broadcast h62
  have hroll : e.source ≠ .rollCall := by simp [hs]
  have h0 : e.tries ≠ 0 := by omega
  have hexec : exec .retryOpportunity s =
      .next (if s.retryMayBegin e then s.beginTry e else s.returnToStaging e) := by
    change execRetryOpportunity s = _
    simp only [execRetryOpportunity, hx, hcan, if_true]
    split <;> rfl
  refine ⟨fun hr hstate hfits => ?_, fun hno => ?_⟩
  · have htag : tryTag s e = if (s.station e.station).nextTag = e.tag + 1 then e.tag
        else (s.station e.station).nextTag := by simp [tryTag, h0]
    have hre : tryReissued s e = (e.reissued || decide ((s.station e.station).nextTag ≠ e.tag + 1)) := by
      simp [tryReissued, h0]
    rw [hexec, if_pos ((retryMayBegin_iff hst).mpr ⟨hr, hstate, hfits⟩), beginTry_station hroll hst]
    refine ⟨_, tryTag s e, rfl, htag, by simp only [during_fields, tryBegun, hre], ?_, fun a ha => ?_, rfl, rfl, ?_⟩
    · rw [during_station, State.station_setStation, if_pos ⟨rfl, h1, h62⟩]
    · rw [during_station, station_setStation_other s ha]
    · rw [setStation_eq]
      rfl
  · have hno' : s.retryMayBegin e ≠ true := fun h => by
      obtain ⟨hr, hstate, hfits⟩ := (retryMayBegin_iff hst).mp h
      rcases hno with hn | hn | hn
      · exact hn hr
      · exact hn hstate
      · omega
    have htx : s.line.tx = none := by
      simp only [State.retryCanRun, State.ready, Bool.and_eq_true, Option.isNone_iff_eq_none] at hcan
      exact hcan.2.1
    obtain ⟨hcl, hstage, hrest, hstations⟩ := returnToStaging_ring (s := s) hs hcur
    have hu' : handedOn s e = u := by rw [hu, handedOn, if_neg hst]
    rw [hexec, if_neg hno']
    refine ⟨_, rfl, hu' ▸ hcl, by simpa using htx, hstage, fun a ha => ?_, hrest⟩
    rw [State.station_congr hstations, handedOn_station_other s e ha]

end Sys2Proof.Machine.TheCycle
end

section
namespace Sys2Proof.Machine.TheCycle

/-! ### The beginning of a staged record's exchange (R34, R40, R123) -/

/-- A record that passes its tests is a broadcast, or its station has a place in the table (R35). -/
theorem fitsNow_station {s : State} {record : RingRecord} (h : s.fitsNow record) (hst : record.station ≠ 63) :
    1 ≤ record.station.toNat ∧ record.station.toNat ≤ 62 := by
  obtain ⟨hv, -⟩ := h
  refine State.station_of_inService (s := s) ?_
  by_contra hin
  have hin' : (s.station record.station).state.inService = false := by simpa using hin
  have hb : (record.station != broadcastAddress) = true := by
    rw [bne_iff_ne]; exact hst
  simp [State.recordVerdict, hin', hb] at hv

theorem beginRecord_begins {s z : State} {r : Ring} {record : RingRecord} (hstations : z.stations = s.stations)
    (hcycle : z.cycle = { s.cycle with owed := false }) (hline : z.line = s.line)
    (hring : z.ringUnit r = s.ringUnit r) (hfits : s.fitsNow record) :
    s.beginsRecord (z.beginRecord r record) r record
      ∧ ∃ stations line context, z.beginRecord r record =
        { z.setRing r { z.ringUnit r with stage := .inExchange } with
          stations := stations, line := line, context := context, lateWatch := none } := by
  have hroll : (record.exchange r).source ≠ .rollCall := by simp [RingRecord.exchange, Exchange.enter]
  generalize hy : z.setRing r { z.ringUnit r with stage := .inExchange } = y
  have hyst (a : Address) : y.station a = s.station a :=
    (State.station_congr (by rw [← hy]; simp) a).trans (State.station_congr hstations a)
  have hycycle : y.cycle = { s.cycle with owed := false } := by rw [← hy, ← hcycle]; simp
  have hyline : y.line = s.line := by rw [← hy, ← hline]; simp
  have hyring : y.ringUnit r = { s.ringUnit r with stage := .inExchange } := by
    rw [← hy, State.ringUnit_setRing, if_pos rfl, hring]
  have hystations : y.stations = s.stations := by rw [← hy, ← hstations]; simp
  have heq : z.beginRecord r record = y.beginTry (record.exchange r) := by rw [← hy]; rfl
  rw [heq]
  refine ⟨?_, beginTry_fields y _⟩
  by_cases hst : record.station = 63
  · rw [beginTry_broadcast hroll hst]
    refine ⟨0, record.reissued, fun _ => ⟨rfl, rfl, hystations⟩, fun h => absurd hst h, ?_, ?_, rfl, hycycle, ?_⟩
    · simp [RingRecord.exchange, Exchange.enter, tryBegun, hst, broadcastAddress]
    · rw [← hyline]; rfl
    · rw [during_ringUnit, hyring]
  · obtain ⟨h1, h62⟩ := fitsNow_station hfits hst
    rw [beginTry_station hroll hst]
    have htag : tryTag y (record.exchange r) = if record.tries ≠ 0
        ∧ (s.station record.station).nextTag = record.tag + 1 then record.tag
        else (s.station record.station).nextTag := by
      rw [← hyst]; rfl
    have hre : tryReissued y (record.exchange r) = (record.reissued || decide (record.tries ≠ 0
        ∧ (s.station record.station).nextTag ≠ record.tag + 1)) := by
      rw [← hyst]; rfl
    refine ⟨tryTag y (record.exchange r), tryReissued y (record.exchange r), fun h => absurd h hst,
      fun _ => ⟨fun h0 => ?_, fun h0 hn => ?_, fun h0 hn => ?_, ?_, fun a ha => ?_⟩, ?_, ?_, rfl, hycycle, ?_⟩
    · rw [htag, hre]; simp [h0]
    · rw [htag, hre]; simp [h0, hn]
    · rw [htag, hre, decide_eq_true ⟨h0, hn⟩, if_neg fun h => hn h.2, Bool.or_true]
      exact ⟨rfl, rfl⟩
    · rw [during_station, State.station_setStation, if_pos ⟨rfl, h1, h62⟩, hyst]
      rfl
    · exact (station_setStation_other y (a := record.station) ha _).trans (hyst a)
    · have hw : (if record.station = 63 then 0 else (s.station record.station).window)
          = (y.station record.station).window := by rw [if_neg hst, hyst]
      rw [hw]
      rfl
    · rw [← hyline]; rfl
    · rw [during_ringUnit, ← hyring, setStation_eq]
      cases r <;> rfl

/-! ### The offers of a selection that chooses nothing (R34, R35) -/

/-- What an offer that chooses nothing leaves: the record that its tests complete written back, or everything as it
was (R35). -/
def afterOffer (done : Ring → Option (RingRecord × Result)) (s : State) (r : Ring) : State :=
  match done r with
  | none => s
  | some p => s.completeRecord r p.1 p.2 none

/-- A state in which the offer to a ring goes as in another: the same records, ring, settings and clock. -/
structure SameOffer (s z : State) (r : Ring) : Prop where
  ring : z.ringUnit r = s.ringUnit r
  stations : z.stations = s.stations
  settings : z.settings = s.settings
  clock : z.cycle.clock = s.cycle.clock

section SameOffer
variable {s z : State} {r : Ring} (h : SameOffer s z r)
include h

theorem SameOffer.verdict (record : RingRecord) : z.recordVerdict record = s.recordVerdict record := by
  have hst := State.station_congr h.stations record.station
  unfold State.recordVerdict State.neverFits State.recordBudget State.budgetTo
  rw [hst, h.settings]

theorem SameOffer.fitsNow (record : RingRecord) : z.fitsNow record ↔ s.fitsNow record := by
  have hst := State.station_congr h.stations record.station
  simp only [State.fitsNow, h.verdict, hst, h.settings, h.clock]

theorem SameOffer.stagedDoesNotFit : z.stagedDoesNotFit r ↔ s.stagedDoesNotFit r := by
  simp only [State.stagedDoesNotFit, h.ring, h.verdict, h.fitsNow]

theorem SameOffer.offerFails (record : RingRecord) (result : Result) :
    z.offerFails r record result ↔ s.offerFails r record result := by
  simp only [State.offerFails, h.ring, h.verdict]

/-- An offer that chooses nothing (R34, R35). -/
theorem SameOffer.offer_eq {done : Ring → Option (RingRecord × Result)} (hnone : s.offersChooseNothing done) :
    z.offer r = (afterOffer done z r, false) := by
  obtain ⟨hwait, hfail⟩ := hnone r
  unfold afterOffer
  cases hd : done r with
  | none => exact State.offer_waits (h.stagedDoesNotFit.mpr (hwait hd))
  | some p => exact State.offer_fails ((h.offerFails p.1 p.2).mpr (hfail p.1 p.2 hd))

end SameOffer

/-- What an offer that chooses nothing touches: its ring and the requests. -/
theorem afterOffer_fields (done : Ring → Option (RingRecord × Result)) (s : State) (r : Ring) :
    ∃ u n qs, afterOffer done s r = { s with ringU := u, ringN := n, requests := qs } := by
  unfold afterOffer
  cases done r with
  | none => exact ⟨_, _, _, rfl⟩
  | some p => exact completeRecord_fields ..

theorem afterOffer_ringUnit (done : Ring → Option (RingRecord × Result)) (s : State) (r q : Ring) :
    (afterOffer done s r).ringUnit q =
      match done r with
      | none => s.ringUnit q
      | some p => if q = r then (s.ringUnit r).completedBy p.1 p.2 s.cycle.number else s.ringUnit q := by
  unfold afterOffer
  cases done r with
  | none => rfl
  | some p => exact completeRecord_ringUnit ..

end Sys2Proof.Machine.TheCycle
end

section
namespace Sys2Proof.Machine.TheCycle

/-! ### Two write-backs issued at one moment (R126, R136, R138) -/

/-- Nothing issued leaves the requests waiting as they stood. -/
theorem issuesBehind_nothing (s : State) : s.issuesBehind s.requests [] := by
  refine ⟨by simp, fun _ _ _ _ => by simp, fun h => ⟨fun _ => h, ?_, ?_⟩⟩ <;> simp

/-- A request issued behind one that was itself just issued: on a free port the first has begun (R138). -/
theorem issuesBehind_snoc {x z : State} {waiting : List Request} {w v : Request} (hx : x.issuesBehind waiting [w])
    (hz : z.issuesBehind x.requests [v])
    (hw : ∃ record c, (x.ringUnit w.ring).current = some record ∧ record.completion = some c
      ∧ (z.ringUnit w.ring).current = some record) : z.issuesBehind waiting [w, v] := by
  obtain ⟨hx1, hx2, hx3⟩ := hx
  obtain ⟨hz1, hz2, -⟩ := hz
  obtain ⟨record, c, hcur, hcomp, hcurz⟩ := hw
  refine ⟨by rw [hz1, List.map_append, hx1]; simp, fun q rest h hb => ?_, fun h => ?_⟩
  · have hreq := hx2 q rest h hb
    rw [hz2 q (rest ++ [w]) (by rw [hreq, h]; rfl) hb, hreq]
    simp
  · obtain ⟨-, hplain, hstatus⟩ := hx3 h
    refine ⟨by simp, fun p more hp hk => ?_, fun p more record' c' hp hk hcur' hcomp' => ?_⟩
    · obtain ⟨rfl, rfl⟩ := List.cons.inj hp
      have hreq := hplain w [] rfl hk
      rw [hz2 _ _ hreq rfl, hreq]
      rfl
    · obtain ⟨rfl, rfl⟩ := List.cons.inj hp
      obtain rfl : record = record' := by simpa [hcurz] using hcur'
      have hreq := hstatus w [] record c' rfl hk hcur hcomp'
      rw [hz2 _ _ hreq rfl, hreq]
      rfl

theorem otherRing_ne (r : Ring) : otherRing r ≠ r := by cases r <;> decide

/-- One completion's write-back, with no reply (R126). -/
theorem completeRecord_issues (s : State) (r : Ring) (record : RingRecord) (result : Result) :
    (s.completeRecord r record result none).issuesBehind s.requests [s.statusWriteRequest r record] :=
  s.completeRecord_issuesBehind r record result none

theorem statusWriteRequest_congr {s z : State} {r : Ring} (h : z.ringUnit r = s.ringUnit r) (record : RingRecord) :
    z.statusWriteRequest r record = s.statusWriteRequest r record := by
  simp only [State.statusWriteRequest, h]

/-- Two records complete, one ring's and then the other's (R126, R136). -/
theorem completeBoth_issues (s : State) (r : Ring) (a b : RingRecord × Result) :
    ((s.completeRecord r a.1 a.2 none).completeRecord (otherRing r) b.1 b.2 none).issuesBehind s.requests
      [s.statusWriteRequest r a.1, s.statusWriteRequest (otherRing r) b.1] := by
  have hother : (s.completeRecord r a.1 a.2 none).ringUnit (otherRing r) = s.ringUnit (otherRing r) := by
    rw [completeRecord_ringUnit, if_neg (otherRing_ne r)]
  have hsecond := completeRecord_issues (s.completeRecord r a.1 a.2 none) (otherRing r) b.1 b.2
  rw [statusWriteRequest_congr hother] at hsecond
  refine issuesBehind_snoc (completeRecord_issues s r a.1 a.2) hsecond
    ⟨{ a.1 with completion := some { result := a.2, cycle := s.cycle.number, reply := none } }, _, ?_, rfl, ?_⟩
  · change ((s.completeRecord r a.1 a.2 none).ringUnit r).current = _
    rw [completeRecord_ringUnit, if_pos rfl]
  · change ((State.completeRecord _ (otherRing r) b.1 b.2 none).ringUnit r).current = _
    rw [completeRecord_ringUnit, if_neg (otherRing_ne r).symm, completeRecord_ringUnit, if_pos rfl]

/-! ### The selection that chooses no record (R34, R35) -/

/-- The state in which a selection makes its offers: no selection is owed any more (R33). -/
def selectionMade (s : State) (order : Nat) : State :=
  { s with cycle := { s.cycle with owed := false }, orderIndex := order }

/-- The rings after two offers that choose nothing (R35). -/
theorem offers_ringUnit (done : Ring → Option (RingRecord × Result)) (s : State) (first q : Ring) :
    (afterOffer done (afterOffer done s first) (otherRing first)).ringUnit q =
      match done q with
      | none => s.ringUnit q
      | some p => (s.ringUnit q).completedBy p.1 p.2 s.cycle.number := by
  have hnumber : (afterOffer done s first).cycle.number = s.cycle.number := by
    obtain ⟨u, n, qs, h⟩ := afterOffer_fields done s first
    rw [h]
  have hother : (afterOffer done s first).ringUnit (otherRing first) = s.ringUnit (otherRing first) := by
    rw [afterOffer_ringUnit]
    cases done first <;> simp [otherRing_ne]
  rw [afterOffer_ringUnit, hother, hnumber]
  by_cases hq : q = first
  · subst hq
    have hne := (otherRing_ne q).symm
    have hsame : (afterOffer done s q).ringUnit q = match done q with
        | none => s.ringUnit q
        | some p => (s.ringUnit q).completedBy p.1 p.2 s.cycle.number := by
      rw [afterOffer_ringUnit]
      cases done q <;> simp
    rw [← hsame]
    cases done (otherRing q) <;> simp [hne]
  · obtain rfl : q = otherRing first := by cases q <;> cases first <;> simp_all [otherRing]
    cases done (otherRing first) with
    | none => exact hother
    | some p => simp

/-- What the offers to both rings leave when they choose nothing (R34, R35, R126, R136). -/
theorem offers_leave {s : State} (done : Ring → Option (RingRecord × Result)) {order : Nat} (first : Ring)
    (ho : (∃ r, done r = none) → order = s.orderIndex) :
    s.afterOffers (afterOffer done (afterOffer done (selectionMade s order) first) (otherRing first)) done
      ∧ ∃ u n qs, afterOffer done (afterOffer done (selectionMade s order) first) (otherRing first)
        = { selectionMade s order with ringU := u, ringN := n, requests := qs } := by
  have hfields : ∃ u n qs, afterOffer done (afterOffer done (selectionMade s order) first) (otherRing first)
      = { selectionMade s order with ringU := u, ringN := n, requests := qs } := by
    obtain ⟨u, n, qs, h⟩ := afterOffer_fields done (selectionMade s order) first
    obtain ⟨u', n', qs', h'⟩ := afterOffer_fields done (afterOffer done (selectionMade s order) first)
      (otherRing first)
    exact ⟨u', n', qs', by rw [h', h]⟩
  refine ⟨⟨fun r => ?_, ⟨first, otherRing first, by cases first <;> decide, ?_⟩, fun hnone => ?_, fun hnone => ?_⟩,
    hfields⟩
  · rw [offers_ringUnit]
    cases hr : done r with
    | none => exact ⟨fun _ => by cases r <;> rfl, fun _ _ h => by cases h⟩
    | some p =>
      refine ⟨fun h => (by cases h), fun record result h => ?_⟩
      obtain rfl := Option.some.inj h
      cases r <;> rfl
  · have hw (r : Ring) (record : RingRecord) : (selectionMade s order).statusWriteRequest r record
        = s.statusWriteRequest r record := statusWriteRequest_congr (by cases r <;> rfl) record
    have hreq : (selectionMade s order).requests = s.requests := rfl
    unfold afterOffer
    cases done first with
    | none =>
      cases done (otherRing first) with
      | none => exact issuesBehind_nothing (selectionMade s order)
      | some b => simpa [hw, hreq] using completeRecord_issues (selectionMade s order) (otherRing first) b.1 b.2
    | some a =>
      cases done (otherRing first) with
      | none => simpa [hw, hreq] using completeRecord_issues (selectionMade s order) first a.1 a.2
      | some b => simpa [hw, hreq] using completeBoth_issues (selectionMade s order) first a b
  · simp only [afterOffer, hnone]
    rfl
  · obtain ⟨u, n, qs, h⟩ := hfields
    rw [h]
    exact ho hnone

/-- The two offers, one after the other, when they choose nothing (R34, R35). -/
theorem offers_eq {s : State} {done : Ring → Option (RingRecord × Result)} (h : s.offersChooseNothing done)
    (order : Nat) (first : Ring) :
    (selectionMade s order).offer first = (afterOffer done (selectionMade s order) first, false)
      ∧ (afterOffer done (selectionMade s order) first).offer (otherRing first)
        = (afterOffer done (afterOffer done (selectionMade s order) first) (otherRing first), false) := by
  have hfirst : SameOffer s (selectionMade s order) first := ⟨by cases first <;> rfl, rfl, rfl, rfl⟩
  have hsecond : SameOffer s (afterOffer done (selectionMade s order) first) (otherRing first) := by
    have hring : (afterOffer done (selectionMade s order) first).ringUnit (otherRing first)
        = s.ringUnit (otherRing first) := by
      rw [afterOffer_ringUnit]
      cases done first <;> simp only [otherRing_ne, if_false] <;> cases first <;> rfl
    obtain ⟨u, n, qs, hz⟩ := afterOffer_fields done (selectionMade s order) first
    rw [hz] at hring ⊢
    exact ⟨hring, rfl, rfl, rfl⟩
  exact ⟨hfirst.offer_eq h, hsecond.offer_eq h⟩

/-- Which offers complete a record, when they choose nothing (R35). -/
theorem offerCompletes_eq {s : State} {done : Ring → Option (RingRecord × Result)} (h : s.offersChooseNothing done)
    (r : Ring) : s.offerCompletes r = (done r).isSome := by
  obtain ⟨hwait, hfail⟩ := h r
  cases hd : done r with
  | some p => exact (State.offerCompletes_iff s r).mpr ⟨p.1, p.2, hfail p.1 p.2 hd⟩
  | none =>
    rw [Option.isSome_none, ← Bool.not_eq_true, State.offerCompletes_iff]
    rintro ⟨record, result, hs, hc, hv⟩
    rcases hwait hd with hn | ⟨record', hc', hv', -⟩
    · exact hn hs
    · obtain rfl : record = record' := by simpa [hc] using hc'
      simp [hv] at hv'

/-- A selection in which the tests complete at most one ring's record: ring U's offer, then ring N's, and the roll call,
until one is chosen (R34). -/
theorem select_in_order {s : State} {r : Ring} (h : s.offerCompletes r = false) :
    s.select =
      if ((selectionMade s s.orderIndex).offer .u).2 = true then ((selectionMade s s.orderIndex).offer .u).1
      else if (((selectionMade s s.orderIndex).offer .u).1.offer .n).2 = true then
        (((selectionMade s s.orderIndex).offer .u).1.offer .n).1
      else (((selectionMade s s.orderIndex).offer .u).1.offer .n).1.considerRollCall := State.select_one h

/-- The selection that chooses no record: the offers, and then the roll call (R34, R35, R36). -/
theorem select_chooses_nothing {s : State} {done : Ring → Option (RingRecord × Result)}
    (h : s.offersChooseNothing done) :
    ∃ order u n qs, s.select = State.considerRollCall
        { selectionMade s order with ringU := u, ringN := n, requests := qs }
      ∧ s.afterOffers { selectionMade s order with ringU := u, ringN := n, requests := qs } done := by
  have hcompletes := offerCompletes_eq h
  have finish (order : Nat) (first : Ring) (ho : (∃ r, done r = none) → order = s.orderIndex)
      (hsel : s.select = State.considerRollCall
        (afterOffer done (afterOffer done (selectionMade s order) first) (otherRing first))) :
      ∃ order u n qs, s.select = State.considerRollCall
          { selectionMade s order with ringU := u, ringN := n, requests := qs }
        ∧ s.afterOffers { selectionMade s order with ringU := u, ringN := n, requests := qs } done := by
    obtain ⟨hafter, u, n, qs, hz⟩ := offers_leave done first ho
    exact ⟨order, u, n, qs, hz ▸ hsel, hz ▸ hafter⟩
  by_cases hboth : ∀ r, (done r).isSome = true
  · obtain ⟨first, hsel⟩ := State.select_both fun r => (hcompletes r).trans (hboth r)
    refine finish (s.orderIndex + 1) first (fun ⟨r, hr⟩ => by simpa [hr] using hboth r) ?_
    obtain ⟨h1, h2⟩ := offers_eq h (s.orderIndex + 1) first
    rw [hsel]
    change State.considerRollCall ((selectionMade s (s.orderIndex + 1)).offerBoth first) = _
    rw [State.offerBoth, h1, h2]
  · obtain ⟨r, hr⟩ := not_forall.mp hboth
    refine finish s.orderIndex .u (fun _ => rfl) ?_
    obtain ⟨h1, h2⟩ : _ ∧ (afterOffer done _ .u).offer .n = _ := offers_eq h s.orderIndex .u
    rw [select_in_order ((hcompletes r).trans (by simpa using hr)), h1, if_neg Bool.false_ne_true, h2,
      if_neg Bool.false_ne_true]

end Sys2Proof.Machine.TheCycle
end

section
namespace Sys2Proof.Machine.TheCycle

/-! ### Roll calls of a selection (R36, R37) -/

/-- A roll call that is disabled, done, not of this cycle or does not fit is not made (R36). -/
theorem considerRollCall_none {s : State}
    (h : s.settings.rollEnable = false ∨ s.cycle.rollDone = true
      ∨ s.cycle.number.toNat % s.settings.rollInterval ≠ 0
      ∨ s.settings.period < s.cycle.clock + (210 + s.settings.rollWindow) + s.settings.guard) :
    s.considerRollCall = s := by
  unfold State.considerRollCall
  by_cases hdue : s.rollDue = true
  · have hfits : s.fits (rollBudget s.settings.rollWindow) = false := by
      simp only [State.rollDue, Bool.and_eq_true, Bool.not_eq_true', beq_iff_eq] at hdue
      obtain ⟨⟨he, hd⟩, hn⟩ := hdue
      simp only [he, hd, hn, Bool.true_eq_false, Bool.false_eq_true, ne_eq, not_true_eq_false, false_or] at h
      exact decide_eq_false (Nat.not_le.mpr h)
    simp [hdue, hfits]
  · simp [hdue]

section RollCall
variable {s : State} (he : s.settings.rollEnable = true) (hd : s.cycle.rollDone = false)
  (hn : s.cycle.number.toNat % s.settings.rollInterval = 0)
  (hfits : s.cycle.clock + (210 + s.settings.rollWindow) + s.settings.guard ≤ s.settings.period)
include he hd hn hfits

/-- A roll call that is due and fits goes to its target, and the pointer past it (R36, R37). -/
theorem considerRollCall_target {a : Address} (ha : s.rollTarget = some a) :
    s.considerRollCall =
      State.beginTry
        { s with cycle := { s.cycle with rollDone := true, rollPointer := if a = 62 then 1 else a + 1 } }
        (Exchange.enter .rollCall a) := by
  have hdue : s.rollDue = true := by simp [State.rollDue, he, hd, hn]
  have hfit : s.fits (rollBudget s.settings.rollWindow) = true := decide_eq_true hfits
  simp only [State.considerRollCall, hdue, hfit, ha, Bool.not_true, Bool.false_eq_true, if_false]

/-- A roll call that is due and fits is done without a target (R36, R37). -/
theorem considerRollCall_noTarget (ha : s.rollTarget = none) :
    s.considerRollCall = { s with cycle := { s.cycle with rollDone := true } } := by
  have hdue : s.rollDue = true := by simp [State.rollDue, he, hd, hn]
  have hfit : s.fits (rollBudget s.settings.rollWindow) = true := decide_eq_true hfits
  simp only [State.considerRollCall, hdue, hfit, ha, Bool.not_true, Bool.false_eq_true, if_false]

end RollCall

/-! ### The open-phase choice (R34) -/

theorem exec_owedSelection {s : State} (h : s.selectionCanRun = true) : exec .owedSelection s = .next s.select := by
  change execOwedSelection s = _
  rw [execOwedSelection, if_pos h]

/-- A record that fits is not one that its tests complete (R35). -/
theorem offerCompletes_of_fits {s : State} {r : Ring} {record : RingRecord}
    (hc : (s.ringUnit r).current = some record) (hf : s.fitsNow record) : s.offerCompletes r = false := by
  rw [← Bool.not_eq_true, State.offerCompletes_iff]
  rintro ⟨record', result, -, hc', hv⟩
  obtain rfl : record = record' := by simpa [hc] using hc'
  simp [hf.1] at hv

theorem selectionMade_offer (s : State) (r : Ring) : SameOffer s (selectionMade s s.orderIndex) r :=
  ⟨by cases r <;> rfl, rfl, rfl, rfl⟩

/-- Settles O29: ring U's offer, ring N's, and nothing more when no roll call is to be made. -/
theorem openPhaseChoiceTakesTheRingsInOrder : Obligations.OpenPhaseChoiceTakesTheRingsInOrder := by
  intro s u n hcan
  have hexec := exec_owedSelection hcan
  refine ⟨fun hs hc hf => ?_, fun hu hs hc hf => ?_, fun result hu hs hc hf => ?_, fun done hnone hroll => ?_⟩
  · have hoffer : (selectionMade s s.orderIndex).offer .u = ((selectionMade s s.orderIndex).beginRecord .u u, true) :=
      State.offer_chosen hs hc (((selectionMade_offer s .u).fitsNow u).mpr hf)
    rw [hexec, select_in_order (r := .u) (offerCompletes_of_fits hc hf), hoffer, if_pos rfl]
    obtain ⟨hbegins, st, l, x, hframe⟩ := beginRecord_begins (s := s) (z := selectionMade s s.orderIndex) (r := .u)
      rfl rfl rfl rfl hf
    exact ⟨_, rfl, hbegins, by rw [hframe]; rfl⟩
  · have hU : (selectionMade s s.orderIndex).offer .u = (selectionMade s s.orderIndex, false) :=
      State.offer_waits ((selectionMade_offer s .u).stagedDoesNotFit.mpr hu)
    have hN : (selectionMade s s.orderIndex).offer .n = ((selectionMade s s.orderIndex).beginRecord .n n, true) :=
      State.offer_chosen hs hc (((selectionMade_offer s .n).fitsNow n).mpr hf)
    rw [hexec, select_in_order (r := .n) (offerCompletes_of_fits hc hf), hU, if_neg Bool.false_ne_true, hN, if_pos rfl]
    obtain ⟨hbegins, st, l, x, hframe⟩ := beginRecord_begins (s := s) (z := selectionMade s s.orderIndex) (r := .n)
      rfl rfl rfl rfl hf
    exact ⟨_, rfl, hbegins, by rw [hframe]; rfl⟩
  · have hU : (selectionMade s s.orderIndex).offer .u
        = ((selectionMade s s.orderIndex).completeRecord .u u result none, false) :=
      State.offer_fails (((selectionMade_offer s .u).offerFails u result).mpr hu)
    have hother : ((selectionMade s s.orderIndex).completeRecord .u u result none).ringUnit .n = s.ringUnit .n := by
      rw [completeRecord_ringUnit, if_neg (by decide)]; rfl
    have hissues := completeRecord_issues (selectionMade s s.orderIndex) .u u result
    have hring := completeRecord_ringUnit (selectionMade s s.orderIndex) .u .u u result none
    obtain ⟨x, y, qs, hz⟩ := completeRecord_fields (selectionMade s s.orderIndex) .u u result none
    rw [hz] at hU hother hissues hring
    generalize hz' : ({ selectionMade s s.orderIndex with ringU := x, ringN := y, requests := qs } : State) = z at *
    have hsame : SameOffer s z .n := ⟨hother, by rw [← hz']; rfl, by rw [← hz']; rfl, by rw [← hz']; rfl⟩
    have hN : z.offer .n = (z.beginRecord .n n, true) :=
      State.offer_chosen (by rw [hsame.ring]; exact hs) (by rw [hsame.ring]; exact hc) ((hsame.fitsNow n).mpr hf)
    rw [hexec, select_in_order (r := .n) (offerCompletes_of_fits hc hf), hU, if_neg Bool.false_ne_true, hN, if_pos rfl]
    obtain ⟨hbegins, st, l, c, hframe⟩ := beginRecord_begins (s := s) (z := z) (r := .n) (by rw [← hz']; rfl)
      (by rw [← hz']; rfl) (by rw [← hz']; rfl) hsame.ring hf
    refine ⟨_, rfl, hbegins, ?_, ?_, by rw [hframe, ← hz']; rfl⟩
    · rw [hframe]
      exact hring
    · refine issuesBehind_congr (by rw [hframe]; rfl) (fun r => ?_) hissues
      rw [hframe]
      cases r <;> rfl
  · obtain ⟨order, x, y, qs, hsel, hafter⟩ := select_chooses_nothing hnone
    rw [hexec, hsel, considerRollCall_none
      (s := { selectionMade s order with ringU := x, ringN := y, requests := qs }) hroll]
    exact ⟨_, rfl, hafter, rfl, rfl⟩

end Sys2Proof.Machine.TheCycle
end

section
namespace Sys2Proof.Machine.TheCycle

/-- A record is a target by its search flag and its state (R37). -/
theorem isTarget_iff (r : Station) : r.isTarget = true ↔ r.search = true ∧ r.state ∈ [.absent, .lost] := by
  simp [Station.isTarget]

/-- A search upward through a range finds its first success. -/
theorem findSome?_range_first {α : Type} {f : Nat → Option α} {n k : Nat} {a : α} (hk : k < n) (h : f k = some a)
    (hbefore : ∀ j, j < k → f j = none) : (List.range n).findSome? f = some a := by
  obtain ⟨m, rfl⟩ : ∃ m, n = k + (1 + m) := ⟨n - k - 1, by omega⟩
  have hskip : (List.range k).findSome? f = none := by
    rw [List.findSome?_eq_none_iff]
    exact fun j hj => hbefore j (List.mem_range.mp hj)
  rw [List.range_add, List.findSome?_append, hskip, Nat.add_comm 1 m, List.range_succ_eq_map]
  simp [h]

section Target
variable {s : State} {address : Nat → Address}
  (haddress : ∀ k, address k = BitVec.ofNat 6 ((s.cycle.rollPointer.toNat - 1 + k) % 62 + 1))
include haddress

/-- The first target from the pointer on, wrapping from 62 to 1 (R37). -/
theorem rollTarget_first {k : Nat} (hk : k < 62) (hsearch : (s.station (address k)).search = true)
    (hstate : (s.station (address k)).state ∈ [.absent, .lost])
    (hbefore : ∀ j, j < k → (s.station (address j)).search = false
      ∨ (s.station (address j)).state ∉ [.absent, .lost]) : s.rollTarget = some (address k) := by
  unfold State.rollTarget
  simp only [← haddress]
  refine findSome?_range_first hk (if_pos ((isTarget_iff _).mpr ⟨hsearch, hstate⟩)) fun j hj => if_neg fun h => ?_
  obtain ⟨h1, h2⟩ := (isTarget_iff _).mp h
  rcases hbefore j hj with hn | hn
  · simp [h1] at hn
  · exact hn h2

/-- No target among the 62 addresses (R37). -/
theorem rollTarget_none (hnone : ∀ k, k < 62 → (s.station (address k)).search = false
    ∨ (s.station (address k)).state ∉ [.absent, .lost]) : s.rollTarget = none := by
  unfold State.rollTarget
  simp only [← haddress]
  refine List.findSome?_eq_none_iff.mpr fun j hj => if_neg fun h => ?_
  obtain ⟨h1, h2⟩ := (isTarget_iff _).mp h
  rcases hnone j (List.mem_range.mp hj) with hn | hn
  · simp [h1] at hn
  · exact hn h2

end Target

/-- What offers have left is read in the rings, the requests and the index of open orders alone. -/
theorem afterOffers_congr {s t z : State} {done : Ring → Option (RingRecord × Result)}
    (hr : ∀ r, t.ringUnit r = z.ringUnit r) (hq : t.requests = z.requests) (ho : t.orderIndex = z.orderIndex)
    (h : s.afterOffers z done) : s.afterOffers t done := by
  simpa only [State.afterOffers, State.issuesBehind, State.servesNext, hr, hq, ho] using h

/-- Settles O30: with no record chosen the selection makes the roll call to its first target, if there is one. -/
theorem rollCallFindsTheNextTarget : Obligations.RollCallFindsTheNextTarget := by
  intro s address done hcan hnone he hd hn hfits h1 h62 haddress
  have hexec := exec_owedSelection hcan
  obtain ⟨order, x, y, qs, hsel, hafter⟩ := select_chooses_nothing hnone
  refine ⟨fun k hk hsearch hstate hbefore => ?_, fun hno => ?_⟩
  · have htarget : State.rollTarget { selectionMade s order with ringU := x, ringN := y, requests := qs }
        = some (address k) := rollTarget_first haddress hk hsearch hstate hbefore
    rw [hsel, considerRollCall_target
      (s := { selectionMade s order with ringU := x, ringN := y, requests := qs }) he hd hn hfits htarget, beginTry_rollCall rfl] at hexec
    exact ⟨_, hexec, afterOffers_congr (fun r => by cases r <;> rfl) rfl rfl hafter, rfl, rfl, rfl, rfl, rfl⟩
  · have htarget : State.rollTarget { selectionMade s order with ringU := x, ringN := y, requests := qs } = none :=
      rollTarget_none haddress hno
    rw [hsel, considerRollCall_noTarget
      (s := { selectionMade s order with ringU := x, ringN := y, requests := qs }) he hd hn hfits htarget] at hexec
    exact ⟨_, hexec, afterOffers_congr (fun r => by cases r <;> rfl) rfl rfl hafter, rfl, rfl⟩

end Sys2Proof.Machine.TheCycle
end

section
namespace Sys2Proof.Machine.TheCycle

/-! ### The beginning of a mark (R24) -/

/-- The swap's entry, posted before or after the page has changed (R98). -/
theorem applyPendingSwap_eq (s : State) :
    s.applyPendingSwap =
      if s.schedule.swapPending = true then
        { s.post { Entry.blank .swapDone 0 s.cycle.number with
            index := BitVec.ofNat 8 s.schedule.active.other.code } with
          schedule := { s.schedule with
            active := s.schedule.active.other, status := Vector.replicate 32 none, swapPending := false } }
      else s := by
  unfold State.applyPendingSwap
  split
  · unfold State.applySwap State.post State.queueFull
    dsimp only
    split
    · rfl
    · split <;> rfl
  · rfl

/-- The cycle that a mark opens (R21, R23, R24). -/
def cycleOpened (x : CycleUnit) (w : MarkWant) : CycleUnit :=
  { x with
    clock := 0, number := x.number + 1, oldNumber := some x.number
    lateMarks := if w.cause = .due ∧ 0 < w.age then min 65535 (x.lateMarks + 1) else x.lateMarks
    phase := .mark, want := none, walk := some 0, owed := false, rollDone := false }

/-- The flags that a beginning mark sets: MARK, and NOTIFY when an entry is queued (R24, R171). -/
def marked (p : State) : State :=
  if p.queue.entries = [] then p.raise .mark else (p.raise .mark).raise .notify

theorem marked_fields (p : State) : ∃ host, marked p = { p with host := host } := by
  unfold marked
  split <;> exact ⟨_, rfl⟩

theorem marked_handsOn {t v : State} (h : t.handsOn v) : (marked t).handsOn (marked v) := by
  obtain ⟨-, hq, -⟩ := id h
  unfold marked
  rw [hq]
  split
  · exact State.handsOn_raise h _
  · exact State.handsOn_raise (State.handsOn_raise h _) _

theorem marked_flag (p : State) :
    (marked p).flag .mark = true ∧ (p.queue.entries ≠ [] → (marked p).flag .notify = true) := by
  unfold marked
  split <;> simp_all

/-- A beginning mark, once a pending swap has been applied (R24, R171, R181). -/
theorem beginMark_eq (s : State) (w : MarkWant) (p : State) (hp : p = s.applyPendingSwap) :
    s.beginMark w =
      { marked p with
        engine := .running
        cycle := cycleOpened p.cycle w
        line := p.line.sending .mark (markFrame (p.cycle.number + 1) p.schedule.active)
        lateWatch := none } := by
  subst hp
  have hlate : w.late = true ↔ w.cause = .due ∧ 0 < w.age := by simp [MarkWant.late]
  unfold State.beginMark cycleOpened marked
  simp only [hlate, State.raise_frame, State.transmit_frame, List.isEmpty_iff]
  by_cases hq : s.applyPendingSwap.queue.entries = []
  · rw [if_pos hq, if_pos hq]
    rfl
  · rw [if_neg hq, if_neg hq]
    rfl

/-- Settles O25: the swap, the number, the frame, the clock and the flags, in the order of R24. -/
theorem markBeginOpensTheCycle : Obligations.MarkBeginOpensTheCycle := by
  intro s w hcan hw
  have hexec : exec .markBegin s = .next (s.beginMark w) := by
    change execMarkBegin s = _
    simp only [execMarkBegin, hw, hcan, if_true]
  generalize hp : s.applyPendingSwap = p
  have hswap := applyPendingSwap_eq s
  rw [hp] at hswap
  have hcycle : p.cycle = s.cycle := by rw [← hp]; simp
  have hline : p.line = s.line := by rw [← hp]; simp
  have hkeeps : { p with schedule := s.schedule, queue := s.queue, host := s.host } = s := by rw [← hp]; simp
  obtain ⟨host, hfields⟩ := marked_fields p
  obtain ⟨hmark, hnotify⟩ := marked_flag p
  have hhands (v : State) (hv : v = if s.schedule.swapPending = true then
        s.post { Entry.blank .swapDone 0 s.cycle.number with index := BitVec.ofNat 8 s.schedule.active.other.code }
      else s) : p.handsOn v := by
    rw [hv, hswap]
    split <;> exact ⟨rfl, rfl, rfl⟩
  have hstate := hexec.trans (congrArg Host.Outcome.next (beginMark_eq s w p hp.symm))
  refine ⟨_, hstate, rfl, ?_, ?_, rfl, hmark, ?_, fun v hv => marked_handsOn (hhands v hv), fun hno => ?_,
    fun hyes => ?_, ?_⟩
  · rw [hcycle]; rfl
  · rw [hcycle, hline, hfields]
  · rw [hfields] at hnotify ⊢
    exact hnotify
  · rw [hfields, hswap, hno]
    exact ⟨rfl, rfl⟩
  · rw [hfields, hswap, hyes]
    exact ⟨rfl, rfl⟩
  · rw [hfields]
    exact congrArg (fun z : State =>
      ({ z with engine := s.engine, line := s.line, cycle := s.cycle, lateWatch := s.lateWatch } : State)) hkeeps

end Sys2Proof.Machine.TheCycle
end

section
namespace Sys2Proof.Machine.TheCycle

/-! ### The entry to LINE_FAULT with an exchange in the context (R62, R186) -/

/-- The entry to LINE_FAULT hands on the same whatever the fields that no hand-off reads. -/
theorem faults_congr {t v : State} {code : BitVec 5} (h : t.faults v code) (x : Option Exchange) (mem : Memory)
    (u n : RingUnit) (qs : List Request) :
    t.faults { v with context := x, exmem := mem, ringU := u, ringN := n, requests := qs } code := by
  obtain ⟨h1, h2, h3, h4, h5, h6, h7, hst, hq, hh⟩ := h
  have key : ((v.post (Entry.blank .lineFault code v.cycle.number)).raise .line).handsOn
      ((State.post { v with context := x, exmem := mem, ringU := u, ringN := n, requests := qs }
        (Entry.blank .lineFault code v.cycle.number)).raise .line) := by
    apply State.handsOn_raise
    apply State.handsOn_post
    · exact ⟨rfl, rfl, rfl⟩
    · rfl
  obtain ⟨k1, k2, k3⟩ := key
  exact ⟨h1, h2, h3, h4, h5, h6, h7, hst.trans k1, hq.trans k2, hh.trans k3⟩

/-- The entry to LINE_FAULT after what the interrupted exchange has handed on (R186). -/
theorem enterLineFault_interrupted {z y : State} {code : BitVec 5}
    (h : z.interrupt .lineFault = { y with context := none }) :
    (z.enterLineFault code).faults y code ∧ (z.enterLineFault code).exmem = y.exmem
      ∧ (z.enterLineFault code).requests = y.requests
      ∧ ∀ r, (z.enterLineFault code).ringUnit r = y.ringUnit r := by
  have heq : z.enterLineFault code = (State.post
      { y with engine := .lineFault, context := none, cycle := { y.cycle with want := none, owed := false } }
      (Entry.blank .lineFault code y.cycle.number)).raise .line := by
    unfold State.enterLineFault
    rw [h]
    rfl
  rw [heq]
  refine ⟨⟨by simp, by simp, by simp, by simp, by simp, by simp, by simp, ?_⟩, by simp, by simp, fun r => ?_⟩
  · apply State.handsOn_raise
    apply State.handsOn_post
    · exact ⟨rfl, rfl, rfl⟩
    · rfl
  · cases r <;> simp [State.ringUnit]

/-- A result that is not OK leaves the exchange memory (R104). -/
theorem sourceTakes_exmem (s : State) (e : Exchange) {result : Result} (reply : Option Reply) (h : result ≠ .ok) :
    (s.sourceTakes e result reply).exmem = s.exmem := by
  unfold State.sourceTakes
  cases e.source with
  | slot i => simp [slotResult_eq, h]
  | ring r i =>
    dsimp only
    split
    · rfl
    · split <;> simp
  | rollCall => rfl

/-- The exchange that the entry to LINE_FAULT ends: its accounting, and its source's result (R62). -/
theorem interrupt_eq {s : State} {e : Exchange} (h : s.context = some e) (result : Result) :
    s.interrupt result =
      { (s.afterAccounting e.source e.station e.unaccounted).sourceTakes e result none with context := none } := by
  simp only [State.interrupt, h, State.accountExchange_eq]

/-- The moment of the quiet-wait limit (R27). -/
theorem exec_quietWaitLimit {s : State} {w : MarkWant} (hrun : s.engine = .starting ∨ s.engine = .running)
    (hw : s.cycle.want = some w) :
    exec .quietWaitLimit s = .next ((s.elapse (s.settings.period - w.age)).enterLineFault 2) := by
  have hwait : s.waitLeft? = some (s.settings.period - w.age) := by
    rcases hrun with h | h <;> simp [State.waitLeft?, h, hw, State.waitLeft]
  change execQuietWaitLimit s = _
  simp only [execQuietWaitLimit, hwait]

/-- The entry to LINE_FAULT changes nothing that no exchange's end touches (R62). -/
theorem enterLineFault_keepsRest (s : State) (code : BitVec 5) : (s.enterLineFault code).keepsRest s := by
  refine keepsRest_iff.mpr ⟨by simp, by simp, by simp, ?_, by simp, by simp, by simp⟩
  cases hx : s.context with
  | none =>
    have h : s.interrupt .lineFault = { s with context := none } := by
      simp only [State.interrupt, hx]
      rw [← hx]
    obtain ⟨-, hmem, -⟩ := enterLineFault_interrupted (code := code) h
    exact hmem
  | some e =>
    obtain ⟨-, hmem, -⟩ := enterLineFault_interrupted (code := code) (interrupt_eq hx .lineFault)
    rw [hmem, sourceTakes_exmem _ _ _ (by decide)]
    simp

theorem during_faults {t v : State} {c : CycleUnit} {l : LineUnit} {w : Option Address} {x : Option Exchange}
    {code : BitVec 5} (y : Option Exchange) (h : t.faults (during v c l x w) code) :
    t.faults (during v c l y w) code :=
  faults_congr h y v.exmem v.ringU v.ringN v.requests

section Fault
variable {s z t : State} {c : CycleUnit} {l : LineUnit} {e : Exchange} {k : Nat}
  (hc : c.number = s.cycle.number) (hz : z = during s c l (some (e.elapse k)) s.lateWatch)
  (ht : t = z.enterLineFault 2)
include hc hz ht

/-- The exchange in the context, once time has passed, and what the interruption hands on. -/
theorem fault_interrupts {y : State}
    (hy : (during (s.afterAccounting e.source e.station e.unaccounted) c l (some (e.elapse k)) s.lateWatch).sourceTakes
      (e.elapse k) .lineFault none = y) :
    t.faults y 2 ∧ t.requests = y.requests ∧ ∀ r, t.ringUnit r = y.ringUnit r := by
  have hx : z.context = some (e.elapse k) := by rw [hz]; rfl
  have hi := interrupt_eq hx .lineFault
  have hacc : z.afterAccounting (e.elapse k).source (e.elapse k).station (e.elapse k).unaccounted
      = during (s.afterAccounting e.source e.station e.unaccounted) c l (some (e.elapse k)) s.lateWatch := by
    rw [hz]
    exact during_afterAccounting s l _ _ hc ..
  rw [hacc, hy] at hi
  obtain ⟨h1, -, h2, h3⟩ := enterLineFault_interrupted (code := 2) hi
  rw [ht]
  exact ⟨h1, h2, h3⟩

/-- A source that makes nothing of the result: an orphaned ring record's, or a roll call (R59, R64). -/
theorem fault_discards
    (hs : (∃ r i, e.source = .ring r i ∧ e.orphaned = true) ∨ e.source = .rollCall) :
    t.faults (during (s.afterAccounting e.source e.station e.unaccounted) c l s.context s.lateWatch) 2
      ∧ t.keepsRings s := by
  have hy : (during (s.afterAccounting e.source e.station e.unaccounted) c l (some (e.elapse k))
      s.lateWatch).sourceTakes (e.elapse k) .lineFault none
      = during (s.afterAccounting e.source e.station e.unaccounted) c l (some (e.elapse k)) s.lateWatch := by
    unfold State.sourceTakes
    rcases hs with ⟨r, i, hs, ho⟩ | hs <;> simp [Exchange.elapse, *]
  obtain ⟨h1, h2, h3⟩ := fault_interrupts hc hz ht hy
  exact ⟨during_faults s.context h1, keepsRings_iff.mpr ⟨fun r => by simpa using h3 r, by simpa using h2⟩⟩

end Fault

/-- Settles O26: the fault entry and its flag come after what the exchange in the context hands on. -/
theorem quietWaitLimitIsALineFault : Obligations.QuietWaitLimitIsALineFault := by
  intro s v w k hrun hw hk hv
  have hi : s.engine ≠ .init := by rcases hrun with h | h <;> simp [h]
  have hc : (s.cycle.ranOn s.engine k).number = s.cycle.number := rfl
  have hexec := exec_quietWaitLimit hrun hw
  rw [← hk] at hexec
  have hz := elapse_eq hi k
  obtain rfl : v = during s (s.cycle.ranOn s.engine k) (s.elapse k).line s.context s.lateWatch := hv
  generalize ht : (s.elapse k).enterLineFault 2 = t at hexec
  have hrest : t.keepsRest s := by
    have h := keepsRest_iff.mp (enterLineFault_keepsRest (s.elapse k) 2)
    rw [ht] at h
    simpa [keepsRest_iff] using h
  refine ⟨t, hexec, by simp [← ht], by simp [← ht], ?_, by simp [← ht], hrest, fun hx => ?_, fun e u hx hu => ?_⟩
  · rw [← ht]
    simp only [State.enterLineFault_frame, State.dropCycleWork, State.elapse_cycle]
  · have hno : (s.elapse k).interrupt .lineFault = { s.elapse k with context := none } := by
      have hx' := State.elapse_context_none hx k
      simp only [State.interrupt, hx']
      rw [← hx']
    obtain ⟨h1, -, h2, h3⟩ := enterLineFault_interrupted (code := 2) hno
    rw [ht] at h1 h2 h3
    refine ⟨?_, keepsRings_iff.mpr ⟨fun r => ?_, by simpa using h2⟩⟩
    · rw [hz] at h1
      exact during_faults s.context h1
    · rw [h3, hz, during_ringUnit]
  · rw [hx] at hz
    obtain rfl : u = during (s.afterAccounting e.source e.station e.unaccounted) (s.cycle.ranOn s.engine k)
        (s.elapse k).line s.context s.lateWatch := hu.trans (during_afterAccounting s _ _ _ hc ..)
    refine ⟨fun i hs => ?_, fun r i record hs ho hcur => ?_, fun r i hs ho => ?_, fun hs => ?_⟩
    · have hy : (during (s.afterAccounting e.source e.station e.unaccounted) (s.cycle.ranOn s.engine k)
          (s.elapse k).line (some (e.elapse k)) s.lateWatch).sourceTakes (e.elapse k) .lineFault none
          = State.slotResult (during (s.afterAccounting e.source e.station e.unaccounted) (s.cycle.ranOn s.engine k)
              (s.elapse k).line (some (e.elapse k)) s.lateWatch) i .lineFault e.causes [] := by
        simp [State.sourceTakes, Exchange.elapse, hs]
      rw [slotResult_eq, during_afterSlotResult _ _ _ (by simp)] at hy
      obtain ⟨h1, h2, h3⟩ := fault_interrupts hc hz ht.symm hy
      rw [during_afterSlotResult _ _ _ (by simp)]
      have hrings : t.keepsRings s :=
        ⟨by simpa [State.ringUnit] using h3 .u, by simpa [State.ringUnit] using h3 .n, by simpa using h2⟩
      generalize (s.afterAccounting e.source e.station e.unaccounted).afterSlotResult i .lineFault e.causes = b at *
      exact ⟨faults_congr h1 s.context b.exmem b.ringU b.ringN b.requests, hrings⟩
    · have hy : (during (s.afterAccounting e.source e.station e.unaccounted) (s.cycle.ranOn s.engine k)
          (s.elapse k).line (some (e.elapse k)) s.lateWatch).sourceTakes (e.elapse k) .lineFault none
          = State.completeRecord (during (s.afterAccounting e.source e.station e.unaccounted)
              (s.cycle.ranOn s.engine k) (s.elapse k).line (some (e.elapse k)) s.lateWatch) r (record.withProgress e)
              .lineFault none := by
        simp only [State.sourceTakes, Exchange.elapse, hs, ho, Bool.false_eq_true, if_false, during_ringUnit,
          afterAccounting_ringUnit, hcur]
        rfl
      obtain ⟨h1, h2, h3⟩ := fault_interrupts hc hz ht.symm hy
      refine ⟨?_, completes_of_completeRecord (v := during (s.afterAccounting e.source e.station e.unaccounted)
        (s.cycle.ranOn s.engine k) (s.elapse k).line (some (e.elapse k)) s.lateWatch) (by simp) (by simp) rfl h3 h2⟩
      obtain ⟨x, n, qs, hf⟩ := completeRecord_fields (during (s.afterAccounting e.source e.station e.unaccounted)
        (s.cycle.ranOn s.engine k) (s.elapse k).line (some (e.elapse k)) s.lateWatch) r (record.withProgress e)
        .lineFault none
      rw [hf] at h1
      generalize s.afterAccounting e.source e.station e.unaccounted = b at *
      exact faults_congr h1 s.context b.exmem b.ringU b.ringN b.requests
    · exact fault_discards hc hz ht.symm (.inl ⟨r, i, hs, ho⟩)
    · have hnone : s.afterAccounting e.source e.station e.unaccounted = s := by
        simp only [State.afterAccounting, hs, ite_self]
      have h := fault_discards hc hz ht.symm (.inr hs)
      rwa [hnone] at h

end Sys2Proof.Machine.TheCycle
end

section
namespace Sys2Proof.Machine.TheCycle

/-! ### The slot that the walk comes to (R31, R91, R101) -/

/-- The first index with a property is the lowest. -/
theorem finRange_find?_eq_some {n : Nat} (p : Fin n → Bool) (i : Fin n) :
    (List.finRange n).find? p = some i ↔ p i = true ∧ ∀ j < i, p j = false := by
  rw [List.find?_eq_some_iff_getElem]
  refine and_congr_right fun _ => ⟨?_, fun h => ?_⟩
  · rintro ⟨k, hk, rfl, hbefore⟩ j hj
    have := hbefore j.val (by simpa [Fin.lt_def] using hj)
    simpa using this
  · exact ⟨i.val, by simp, by simp, fun j hj => by simpa using h ⟨j, by omega⟩ (by simpa [Fin.lt_def] using hj)⟩

theorem dueIn_iff (x : Slot) (number : Nat) :
    x.dueIn number = true ↔ x.enable = true ∧ x.rate ≠ 0 ∧ number % x.rate.toNat = x.phase.toNat := by
  simp [Slot.dueIn, and_assoc]

section Due
variable {s : State} {start : Nat} {due : Fin 32 → Prop}
  (hdue : ∀ i, due i ↔
    (s.schedule.activePage[i]).enable = true ∧ (s.schedule.activePage[i]).rate ≠ 0
      ∧ s.cycle.number.toNat % (s.schedule.activePage[i]).rate.toNat = (s.schedule.activePage[i]).phase.toNat)
include hdue

/-- The walk's slot is the lowest from its position on that is due (R31). -/
theorem dueSlotFrom_eq_some (i : Fin 32) :
    s.dueSlotFrom start = some i ↔ start ≤ i.val ∧ due i ∧ ∀ j : Fin 32, start ≤ j.val → j < i → ¬ due j := by
  unfold State.dueSlotFrom
  rw [finRange_find?_eq_some]
  simp only [Bool.and_eq_true, decide_eq_true_eq, dueIn_iff, ← hdue, and_assoc]
  refine and_congr_right fun _ => and_congr_right fun _ => forall_congr' fun j => ?_
  rw [← Bool.not_eq_true, Bool.and_eq_true, decide_eq_true_eq, dueIn_iff, ← hdue]
  tauto

theorem dueSlotFrom_eq_none : s.dueSlotFrom start = none ↔ ∀ i : Fin 32, start ≤ i.val → ¬ due i := by
  unfold State.dueSlotFrom
  simp only [List.find?_eq_none, List.mem_finRange, true_implies, Bool.and_eq_true, decide_eq_true_eq, dueIn_iff,
    ← hdue, not_and]

end Due

/-- A slot is held by its bit of the HOLD mask (R101). -/
theorem held_eq (x : Schedule) (i : Fin 32) : x.held i = decide (x.hold.toNat / 2 ^ i.val % 2 = 1) := by
  rw [Schedule.held, BitVec.getLsbD, Nat.testBit_eq_decide_div_mod_eq]

/-! ### A slot that completes without bus time (R31) -/

/-- The tests of a slot at its transmit opportunity, the first that fails (R31). -/
theorem slotVerdict_fails {s : State} {i : Fin 32} {slot : Slot} {nout budget : Nat} {result : Result}
    (hslot : slot = s.schedule.activePage[i])
    (hnout : nout = (if s.schedule.held i then 0 else slot.outLength.toNat))
    (hbudget : budget = 10 * (12 + nout + slot.inCapacity.toNat) + (s.station slot.station).window)
    (h : (s.station slot.station).state = .lost ∧ result = .stationLost
      ∨ (s.station slot.station).state ∈ [.absent, .joining, .barred] ∧ result = .notActive
      ∨ (s.station slot.station).state ∈ [.active, .suspect]
          ∧ (s.station slot.station).maxPayload < nout ∧ result = .tooLong
      ∨ (s.station slot.station).state ∈ [.active, .suspect]
          ∧ nout ≤ (s.station slot.station).maxPayload
          ∧ s.settings.period < s.cycle.clock + budget + s.settings.guard ∧ result = .skippedCutoff) :
    s.slotVerdict i = some result ∧ result ≠ .ok := by
  have hout : s.slotOut i = nout := by rw [hnout, hslot]; rfl
  have hfit : s.fits (s.slotBudget slot nout) = decide (s.cycle.clock + budget + s.settings.guard ≤ s.settings.period) := by
    rw [hbudget]; rfl
  have hin (hs : (s.station slot.station).state ∈ [.active, .suspect]) :
      (s.station slot.station).state.inService = true := by
    generalize (s.station slot.station).state = x at hs ⊢
    revert x; decide
  unfold State.slotVerdict
  simp only [← hslot, hout, hfit]
  rcases h with ⟨hs, rfl⟩ | ⟨hs, rfl⟩ | ⟨hs, hlen, rfl⟩ | ⟨hs, hlen, hlate, rfl⟩
  · simp [hs, StationState.inService, StationState.outResult]
  · simp only [List.mem_cons, List.not_mem_nil, or_false] at hs
    rcases hs with hs | hs | hs <;> simp [hs, StationState.inService, StationState.outResult]
  · simp [hin hs, hlen]
  · simp [hin hs, Nat.not_lt.mpr hlen, Nat.not_le.mpr hlate]

/-- A slot's result other than OK changes nothing but the status entry and what a post changes (R105, R106). -/
theorem slotResult_keeps (s : State) (i : Fin 32) (causes : KindSet) (payload : List Byte) {result : Result}
    (h : result ≠ .ok) :
    { s.slotResult i result causes payload with
      cycle := s.cycle, schedule := s.schedule, queue := s.queue, host := s.host } = s := by
  have hmem : (s.slotResult i result causes payload).exmem = s.exmem := by rw [slotResult_eq, if_neg h]
  simp [hmem]

/-- Settles O27: the slot takes its result, and the walk moves on. -/
theorem slotCompletesWithoutBusTime : Obligations.SlotCompletesWithoutBusTime := by
  refine ⟨fun s start due hdue => ⟨dueSlotFrom_eq_some hdue, dueSlotFrom_eq_none hdue⟩, held_eq, ?_⟩
  intro s start i slot nout budget result hcan hwalk hnext hslot hnout hbudget htests
  obtain ⟨hverdict, hok⟩ := slotVerdict_fails hslot hnout hbudget htests
  have hcond := hcan
  simp only [State.slotCanRun, Bool.and_eq_true, decide_eq_true_eq, Option.isNone_iff_eq_none] at hcond
  obtain ⟨⟨⟨⟨⟨-, hphase⟩, -⟩, hwant⟩, -⟩, -⟩ := hcond
  have hexec : exec .slotOpportunity s = .next ((s.slotResult i result 0 []).walkFrom (i.val + 1)) := by
    change execSlotOpportunity s = _
    simp only [execSlotOpportunity, hwalk, hcan, hnext, State.runSlot, hverdict, if_true]
  have hdue : (s.slotResult i result 0 []).dueSlotFrom (i.val + 1) = s.dueSlotFrom (i.val + 1) := by
    simp only [State.dueSlotFrom, Schedule.activePage, Schedule.page, State.slotResult_frame]
  rw [State.walkFrom_eq (by simp [hwalk]), hdue] at hexec
  have hcycle : (s.slotResult i result 0 []).cycle = s.cycle := by simp
  have hschedule : (s.slotResult i result 0 []).schedule = { s.schedule with
      status := s.schedule.status.set i (some { result := result, cycle := s.cycle.number }) } := by
    rw [slotResult_eq]; rfl
  rw [hcycle] at hexec
  have hw : s.cycle.walk ≠ none := by simp [hwalk]
  refine ⟨_, hexec, hschedule, ?_, ?_, fun hn => ?_, rfl, s.slotResult_handsOn i result 0 [], ?_⟩
  · simp only [CycleUnit.walkedOn, hw, if_false]
    cases s.dueSlotFrom (i.val + 1) <;> rfl
  · simp only [CycleUnit.walkedOn, hw, if_false]
    cases s.dueSlotFrom (i.val + 1) <;> simp [hphase]
  · simp [CycleUnit.walkedOn, hw, hn, hwant]
  · exact slotResult_keeps s i 0 [] hok

end Sys2Proof.Machine.TheCycle
end

section
namespace Sys2Proof.Machine.TheCycle

/-! ### The slots that a walk closed early passes over (R32) -/

/-- The given slots have completed SKIPPED_CUTOFF one after the other. -/
def skipAll (s : State) (slots : List (Fin 32)) : State :=
  slots.foldl (fun t i => t.slotResult i .skippedCutoff 0 []) s

/-- A slot's result in two states that hand on the same, of one cycle and one active page. -/
theorem slotResult_handsOn_same {t u : State} (i : Fin 32) (result : Result) (causes : KindSet) (payload : List Byte)
    (h : t.handsOn u) (hset : t.settings = u.settings) (hpage : t.schedule.activePage = u.schedule.activePage)
    (hnum : t.cycle.number = u.cycle.number) :
    (t.slotResult i result causes payload).handsOn (u.afterSlotEntry i result causes) := by
  have hentry : (t.afterSlotEntry i result causes).handsOn (u.afterSlotEntry i result causes) := by
    simp only [State.afterSlotEntry, hpage, hnum]
    split
    · exact State.handsOn_post h hset _
    · exact h
  obtain ⟨h1, h2, h3⟩ := t.slotResult_handsOn i result causes payload
  obtain ⟨g1, g2, g3⟩ := hentry
  exact ⟨h1.trans g1, h2.trans g2, h3.trans g3⟩

/-- A slot's status entry alone changes in the schedule (R105). -/
theorem slotResult_schedule (s : State) (i : Fin 32) (result : Result) (causes : KindSet) (payload : List Byte) :
    (s.slotResult i result causes payload).schedule = { s.schedule with
      status := s.schedule.status.set i (some { result := result, cycle := s.cycle.number }) } := by
  rw [slotResult_eq]
  rfl

@[simp] theorem afterSlotEntry_frame (s : State) (i : Fin 32) (result : Result) (causes : KindSet) :
    (s.afterSlotEntry i result causes).settings = s.settings
      ∧ (s.afterSlotEntry i result causes).schedule = s.schedule
      ∧ (s.afterSlotEntry i result causes).cycle = s.cycle := by
  unfold State.afterSlotEntry
  split <;> simp

/-- The skipped slots hand on their SLOT entries in their order (R32, R106). -/
theorem skipAll_handsOn (slots : List (Fin 32)) {t u : State} (h : t.handsOn u) (hset : t.settings = u.settings)
    (hpage : t.schedule.activePage = u.schedule.activePage) (hnum : t.cycle.number = u.cycle.number) :
    (skipAll t slots).handsOn (slots.foldl (fun v i => v.afterSlotEntry i .skippedCutoff 0) u) := by
  induction slots generalizing t u with
  | nil => exact h
  | cons i slots ih =>
    refine ih (slotResult_handsOn_same i .skippedCutoff 0 [] h hset hpage hnum) ?_ ?_ ?_
    · simp [hset]
    · rw [slotResult_schedule, (afterSlotEntry_frame ..).2.1, ← hpage]
      rfl
    · simp [hnum]

/-- The skipped slots have their status entries, and every other entry stands (R105). -/
theorem skipAll_status (slots : List (Fin 32)) (s : State) (i : Fin 32) :
    (skipAll s slots).schedule.status[i] =
      if i ∈ slots then some { result := .skippedCutoff, cycle := s.cycle.number } else s.schedule.status[i] := by
  induction slots generalizing s with
  | nil => simp [skipAll]
  | cons j slots ih =>
    refine (ih (s.slotResult j .skippedCutoff 0 [])).trans ?_
    rw [slotResult_schedule]
    by_cases hi : i ∈ slots
    · simp [hi]
    · by_cases hj : i = j
      · simp [hj]
      · have hne : j.val ≠ i.val := fun h => hj (Fin.ext h.symm)
        simp [hi, hj, hne]

/-- The skipped slots change nothing but their status entries and what a post changes (R32). -/
theorem skipAll_keeps (slots : List (Fin 32)) (s : State) :
    { skipAll s slots with schedule := s.schedule, queue := s.queue, host := s.host } = s
      ∧ { (skipAll s slots).schedule with status := s.schedule.status } = s.schedule := by
  induction slots generalizing s with
  | nil => exact ⟨rfl, rfl⟩
  | cons j slots ih =>
    have hkeeps := slotResult_keeps s j 0 [] (result := .skippedCutoff) (by decide)
    have hcycle : (s.slotResult j .skippedCutoff 0 []).cycle = s.cycle := by simp
    have hschedule := slotResult_schedule s j .skippedCutoff 0 []
    obtain ⟨h1, h2⟩ := ih (s.slotResult j .skippedCutoff 0 [])
    rw [← hcycle] at hkeeps
    refine ⟨?_, ?_⟩
    · rw [← h1] at hkeeps
      exact hkeeps
    · rw [hschedule] at h2
      have := congrArg (fun x : Schedule => { x with status := s.schedule.status }) h2
      exact this

/-! ### The mark falls due (R23) -/

/-- The line, the cycle and the context at the moment the mark falls due, and the rest of the state. -/
abbrev atDue (s : State) : State :=
  during s { s.cycle with clock := s.settings.period, want := some { cause := .due, age := 0 }, owed := false }
    (s.elapse (s.settings.period - s.cycle.clock)).line
    (s.context.map (·.elapse (s.settings.period - s.cycle.clock))) s.lateWatch

theorem dueRuns_iff (s : State) : s.dueRuns = true ↔
    s.engine = .running ∧ s.cycle.want = none ∧ ∀ x, s.line.tx = some x → x.user ≠ .mark := by
  cases h : s.line.tx <;> simp [State.dueRuns, h, and_assoc]

/-- MARK_DUE: the walk closes in the state at the moment the clock reaches P (R23, R32). -/
theorem exec_markDue {s : State} (hdue : s.dueRuns = true) (hclock : s.cycle.clock ≤ s.settings.period)
    (hperiod : s.settings.period ≤ 2097151) : exec .markDue s = .next (atDue s).closeWalk := by
  obtain ⟨hrun, hwant, -⟩ := (dueRuns_iff s).mp hdue
  have hranOn : (s.cycle.ranOn s.engine (s.settings.period - s.cycle.clock)).clock = s.settings.period := by
    simp only [CycleUnit.ranOn, hrun]
    split
    · omega
    · rename_i h
      simp at h
      omega
  have hcycle : ({ s.cycle.ranOn s.engine (s.settings.period - s.cycle.clock) with
        want := some { cause := .due, age := 0 }, owed := false } : CycleUnit)
      = { s.cycle with clock := s.settings.period, want := some { cause := .due, age := 0 }, owed := false } := by
    simp only [hranOn]
    rfl
  change execMarkDue s = _
  simp only [execMarkDue, hdue, if_true, State.dueLeft]
  rw [elapse_eq (by simp [hrun]), atDue, ← hcycle]
  generalize (s.elapse (s.settings.period - s.cycle.clock)).line = line
  generalize s.settings.period - s.cycle.clock = k
  rfl

/-- A walk that is finished, or of a phase not CYCLIC, has nothing to close (R32). -/
theorem closeWalk_finished {s : State} (h : s.cycle.phase ≠ .cyclic ∨ s.cycle.walk = none) : s.closeWalk = s := by
  unfold State.closeWalk
  split
  · simp_all
  · rfl

/-- A slot left of a walk: from the walk's position on, due, and not in flight (R32). -/
def leftOver (s : State) (w i : Fin 32) : Bool :=
  decide (w ≤ i) && (s.schedule.activePage[i]).dueIn s.cycle.number.toNat && !s.context.any (·.source = .slot i)

theorem leftOver_iff (s : State) (w i : Fin 32) : leftOver s w i = true ↔
    w ≤ i ∧ (s.schedule.activePage[i]).enable = true ∧ (s.schedule.activePage[i]).rate ≠ 0
      ∧ s.cycle.number.toNat % (s.schedule.activePage[i]).rate.toNat = (s.schedule.activePage[i]).phase.toNat
      ∧ ∀ e, s.context = some e → e.source ≠ .slot i := by
  cases h : s.context <;> simp [leftOver, h, dueIn_iff, and_assoc]

/-- The same slots are left at the moment the mark falls due. -/
theorem leftOver_atDue (s : State) (w : Fin 32) : leftOver (atDue s) w = leftOver s w := by
  funext i
  cases h : s.context <;> simp [leftOver, h, Exchange.elapse]

/-- An unfinished walk closes by skipping every slot left, in slot order (R32). -/
theorem closeWalk_unfinished {s : State} {w : Fin 32} (hphase : s.cycle.phase = .cyclic)
    (hwalk : s.cycle.walk = some w) :
    s.closeWalk = { skipAll s ((List.finRange 32).filter (leftOver s w)) with
      cycle := { s.cycle with walk := none, phase := .opened, owed := false } } := by
  obtain ⟨hkeeps, -⟩ := skipAll_keeps ((List.finRange 32).filter (leftOver s w)) s
  have hcycle : s.cycle = (skipAll s ((List.finRange 32).filter (leftOver s w))).cycle :=
    (congrArg State.cycle hkeeps.symm :)
  have hfold : skipAll s ((List.finRange 32).filter (leftOver s w)) = (List.finRange 32).foldl
      (fun t i => if leftOver s w i = true then t.slotResult i .skippedCutoff 0 [] else t) s :=
    List.foldl_filter ..
  rw [show ({ s.cycle with walk := none, phase := .opened, owed := false } : CycleUnit) = _ from
    congrArg (fun x : CycleUnit => { x with walk := none, phase := .opened, owed := false }) hcycle]
  simp only [State.closeWalk, hphase, hwalk]
  rw [hfold]
  rfl

/-- Settles O24: the walk's slots left are skipped in the state at the moment the mark falls due. -/
theorem markDueClosesTheWalk : Obligations.MarkDueClosesTheWalk := by
  refine ⟨dueRuns_iff, fun s left hdue hclock hperiod => ?_⟩
  have hexec := exec_markDue hdue hclock hperiod
  have hx : (atDue s).context = s.context.map (fun e => { e with
      expiry := e.expiry.map fun left => left - ((s.settings.period - s.cycle.clock : Nat) : Int) }) := rfl
  by_cases hopen : s.cycle.phase ≠ .cyclic ∨ s.cycle.walk = none
  · rw [closeWalk_finished (s := atDue s) hopen] at hexec
    refine ⟨_, hexec, rfl, rfl, rfl, rfl, hx, rfl, rfl, rfl, rfl, fun _ => ⟨rfl, rfl, rfl⟩, fun w hphase hwalk => ?_⟩
    simp [hphase, hwalk] at hopen
  · obtain ⟨hphase, hsome⟩ := not_or.mp hopen
    obtain ⟨w, hwalk⟩ := Option.ne_none_iff_exists'.mp hsome
    rw [not_not] at hphase
    rw [closeWalk_unfinished (s := atDue s) hphase hwalk, leftOver_atDue] at hexec
    obtain ⟨hkeeps, hschedule⟩ := skipAll_keeps ((List.finRange 32).filter (leftOver s w)) (atDue s)
    refine ⟨_, hexec, rfl, rfl, rfl, rfl, (congrArg State.context hkeeps :).trans hx, (congrArg State.line hkeeps :),
      rfl, ?_, hschedule, fun h => absurd h hopen, fun w' _ hwalk' hleft => ?_⟩
    · exact congrArg (fun z : State => { z with line := s.line, cycle := s.cycle, context := s.context }) hkeeps
    · obtain rfl : w = w' := Option.some.inj (hwalk.symm.trans hwalk')
      obtain rfl : left = leftOver s w := funext fun i => by rw [Bool.eq_iff_iff, hleft, leftOver_iff]
      refine ⟨rfl, rfl, fun i => ?_, skipAll_handsOn _ (t := atDue s) ⟨rfl, rfl, rfl⟩ rfl rfl rfl⟩
      refine (skipAll_status _ (atDue s) i).trans ?_
      simp

end Sys2Proof.Machine.TheCycle
end

section
namespace Sys2Proof.Machine.TheCycle

/-! ### The memory port at the end of a request (R138) -/

/-- Serving twice is serving once: the oldest request has begun (R138). -/
theorem serve_serve (s : State) : s.serve.serve = s.serve := by
  cases hq : s.requests with
  | nil =>
    have h : s.serve = s := by simp [State.serve, hq]
    rw [h, h]
  | cons q rest =>
    cases hb : q.begun with
    | true => rw [State.serve_begun hq hb, State.serve_begun hq hb]
    | false =>
      have h : ∃ p, s.serve.requests = p :: rest ∧ p.begun = true := by simp [State.serve, hq, hb]
      obtain ⟨p, hp, hbegun⟩ := h
      exact State.serve_begun hp hbegun

/-- An issue has served the queue already (R136). -/
@[simp] theorem serve_issue (s : State) (q : Request) : (s.issue q).serve = s.issue q := serve_serve _

@[simp] theorem serve_ringUnit (s : State) (r : Ring) : s.serve.ringUnit r = s.ringUnit r := by
  cases r <;> simp [State.ringUnit]

@[simp] theorem issue_ringUnit (s : State) (q : Request) (r : Ring) : (s.issue q).ringUnit r = s.ringUnit r := by
  cases r <;> simp [State.ringUnit]

/-- A record's completion with no reply issues its STATUS_WRITE alone (R126). -/
theorem completeRecord_noReply (s : State) (r : Ring) (record : RingRecord) (result : Result) :
    s.completeRecord r record result none =
      (s.setRing r { s.ringUnit r with
        stage := .writingBack
        current := some { record with completion := some { result := result, cycle := s.cycle.number, reply := none } }
      }).issue (s.statusWriteRequest r record) := rfl

/-- A completion on a port where no request has begun: the STATUS_WRITE joins behind those waiting, and the oldest
begins (R126, R136, R138). -/
theorem completeRecord_servesNext {s : State} (h : ∀ p ∈ s.requests, p.begun = false) (r : Ring)
    (record : RingRecord) (result : Result) :
    (s.completeRecord r record result none).servesNext (s.requests ++ [s.statusWriteRequest r record]) := by
  have hreq : (s.setRing r { s.ringUnit r with
      stage := .writingBack
      current := some { record with completion := some { result := result, cycle := s.cycle.number, reply := none } }
    }).requests = s.requests := by simp
  rw [completeRecord_noReply, ← hreq]
  rw [← hreq] at h
  exact State.issue_servesNext h rfl

/-- A ring with a record or a request under way fetches nothing (R118). -/
theorem mayFetch_busy {s : State} {r : Ring} (h : (s.ringUnit r).stage ≠ .none) : s.mayFetch r = false := by
  simp [State.mayFetch, h]

/-- A ring that is not ACTIVE fetches nothing (R118). -/
theorem mayFetch_inactive {s : State} {r : Ring} (h : (s.ringUnit r).state ≠ .active) : s.mayFetch r = false := by
  simp [State.mayFetch, h]

theorem handsOn_trans {t v z : State} (h : t.handsOn v) (h' : v.handsOn z) : t.handsOn z := by
  obtain ⟨h1, h2, h3⟩ := h
  obtain ⟨g1, g2, g3⟩ := h'
  exact ⟨h1.trans g1, h2.trans g2, h3.trans g3⟩

/-- Serving the queue hands nothing on (R138). -/
theorem serve_handsOn (s : State) : s.serve.handsOn s := ⟨by simp, by simp, by simp⟩

/-- The state once a request has left the queue, before its ring acts on it (R138). -/
abbrev unqueued (s : State) (rest : List Request) : State := { s with requests := rest }

/-- A request with one more of its transfers answered (R138). -/
abbrev answeredWith (q : Request) (word : Word) : Request :=
  { q with answered := q.answered + 1, words := q.words ++ [word] }

section Answer
variable {s : State} {q : Request} {rest : List Request} (hq : s.requests = q :: rest) (hbegun : q.begun = true)
include hq hbegun

/-- An error ends the request at once (R138). -/
theorem exec_errorAnswer (word : Word) :
    exec (.memoryTransferAnswer false word) s = .next (s.finishRequest q rest false) := by
  change Host.Outcome.next (s.transferAnswered false word) = _
  simp [State.transferAnswered, hq, hbegun]

/-- The last answer ends the request, the word it brings taken (R138). -/
theorem exec_lastAnswer (hlast : q.transfers.length ≤ q.answered + 1) (word : Word) :
    exec (.memoryTransferAnswer true word) s =
      .next (s.finishRequest (answeredWith q word) rest true) := by
  change Host.Outcome.next (s.transferAnswered true word) = _
  simp only [State.transferAnswered, hq, hbegun, Bool.not_true, Bool.false_eq_true, if_false]
  exact congrArg _ (if_pos hlast)

end Answer

/-- A request that is not discarded ends with its outcome; a ring that may not fetch after it issues nothing more
(R118, R138). -/
theorem finishRequest_taken {s z : State} {q : Request} {rest : List Request} {ok : Bool} (hd : q.discarded = false)
    (hz : (unqueued s rest).takeOutcome q ok = z) (hfetch : z.mayFetch q.ring = false) :
    s.finishRequest q rest ok = z.serve := by
  simp only [State.finishRequest, hd, Bool.false_eq_true, if_false, hz, State.tryFetch_held hfetch]

/-! ### What an outcome leaves of the rings (R119, R122, R130) -/

/-- The staging of a record whose tests pass (R122, R33). -/
theorem stageRecord_stages {s : State} {r : Ring} {record : RingRecord} (h : s.recordVerdict record = none) :
    (∀ o, (s.stageRecord r record).ringUnit o =
        if o = r then { s.ringUnit r with stage := .staged, current := some record } else s.ringUnit o)
      ∧ (s.stageRecord r record).requests = s.requests
      ∧ (s.stageRecord r record).cycle =
          (if s.engine = .running ∧ s.context = none then s.cycle.selecting else s.cycle) := by
  have hstaged : s.stageRecord r record = { s.setRing r { s.ringUnit r with stage := .staged, current := some record } with
      cycle := if s.engine = .running ∧ s.context = none then s.cycle.selecting else s.cycle } := by
    simp only [State.stageRecord, h]
    have hx := (s.setRing_frame r { s.ringUnit r with stage := .staged, current := some record })
    generalize s.setRing r { s.ringUnit r with stage := .staged, current := some record } = z at hx ⊢
    obtain ⟨he, -, -, hc, -, hx, -⟩ := hx
    rw [← he, ← hc, ← hx]
    by_cases hnone : z.context = none <;> by_cases hrun : z.engine = .running
    · simp [hnone, hrun, State.selectionPoint_eq]
    · have hpoint : z.selectionPoint = z := by simp [State.selectionPoint, hrun]
      rw [if_pos (by simp [hnone]), if_neg (by simp [hrun]), hpoint]
    · simp [hnone]
    · simp [hnone]
  rw [hstaged]
  refine ⟨fun o => ?_, by simp, rfl⟩
  rw [← State.ringUnit_setRing]
  cases o <;> rfl

/-- A halt that names no record: the ring's move, its flag, and its entry, in this order (R130). -/
theorem haltRing_eq (s : State) (r : Ring) (reason : HaltReason) (index : Byte) :
    s.haltRing r reason index none = ((s.setRing r { s.ringUnit r with
        state := .halted, reason := reason, stage := .none, current := none }).raise .ring).post
      { Entry.blank .ringHalt (BitVec.ofNat 5 reason.code) s.cycle.number with ring := r, index := index } := by
  have hnumber : (s.setRing r { s.ringUnit r with
      state := .halted, reason := reason, stage := .none, current := none }).cycle.number = s.cycle.number := by simp
  rw [← hnumber]
  rfl

/-- A ring's halt: the ring, its flag and its entry (R130). -/
theorem haltRing_halts (s : State) (r : Ring) (reason : HaltReason) (index : Byte) :
    (∀ o, (s.haltRing r reason index none).ringUnit o =
        if o = r then { s.ringUnit r with state := .halted, reason := reason, stage := .none, current := none }
        else s.ringUnit o)
      ∧ (s.haltRing r reason index none).flag .ring = true
      ∧ (s.haltRing r reason index none).handsOn ((s.raise .ring).post
          { Entry.blank .ringHalt (BitVec.ofNat 5 reason.code) s.cycle.number with ring := r, index := index })
      ∧ { s.haltRing r reason index none with
            ringU := s.ringU, ringN := s.ringN, requests := s.requests, queue := s.queue, host := s.host } = s := by
  refine ⟨fun o => ?_, ?_, ?_, by simp⟩ <;> rw [haltRing_eq]
  · rw [← State.ringUnit_setRing]
    cases o <;> simp [State.ringUnit]
  · exact State.post_keeps_flag _ _ (by simp)
  · exact State.handsOn_post (State.handsOn_raise ⟨by simp, by simp, by simp⟩ _) (by simp) _

end Sys2Proof.Machine.TheCycle
end

section
namespace Sys2Proof.Machine.TheCycle

/-! ### The record taken (R119, R197) -/

/-- A field of a word is the word over the field's place, modulo the field's size (R197). -/
theorem extractLsb'_eq_ofNat (w : Word) (lo len : Nat) :
    w.extractLsb' lo len = BitVec.ofNat len (w.toNat / 2 ^ lo % 2 ^ len) := by
  apply BitVec.eq_of_toNat_eq
  simp [BitVec.extractLsb'_toNat, Nat.shiftRight_eq_div_pow]

theorem recordOfWords_eq (index : Byte) (w0 w1 w2 w3 : Word) : recordOfWords index w0 w1 w2 w3 =
    { index := index
      station := BitVec.ofNat 6 (w0.toNat % 64)
      function := BitVec.ofNat 4 (w0.toNat / 256 % 16)
      retryLimit := BitVec.ofNat 3 (w0.toNat / 4096 % 8)
      notify := decide (w0.toNat / 32768 % 2 = 1)
      outLength := BitVec.ofNat 8 (w0.toNat / 65536 % 256)
      outAddress := w1, inAddress := w2, inCapacity := w3, outData := []
      tries := 0, tag := 0, causes := 0, reissued := false, completion := none } := by
  have hnotify : w0.getLsbD 15 = decide (w0.toNat / 32768 % 2 = 1) := by
    rw [BitVec.getLsbD, Nat.testBit_eq_decide_div_mod_eq]
  simp only [recordOfWords, extractLsb'_eq_ofNat, hnotify]
  norm_num

/-! ### A RECORD_READ that halts its ring (R119, R130) -/

section Halts
variable {s : State} {q : Request} {rest : List Request} {ok : Bool} {r : Ring} {reason : HaltReason}
  (hwaits : ∀ p ∈ rest, p.begun = false) (hd : q.discarded = false) (hr : q.ring = r)
  (houtcome : (unqueued s rest).takeOutcome q ok = (unqueued s rest).haltRing r reason q.index none)
include hwaits hd hr houtcome

/-- A request whose outcome halts its ring: nothing is fetched, and the oldest waiting begins (R130, R138). -/
theorem finishRequest_halts :
    (s.finishRequest q rest ok).servesNext rest
      ∧ (s.finishRequest q rest ok).ringUnit r = { s.ringUnit r with
          state := .halted, reason := reason, stage := .none, current := none }
      ∧ (s.finishRequest q rest ok).flag .ring = true
      ∧ (s.finishRequest q rest ok).handsOn ((s.raise .ring).post
          { Entry.blank .ringHalt (BitVec.ofNat 5 reason.code) s.cycle.number with ring := r, index := q.index })
      ∧ (∀ o, o ≠ r → (s.finishRequest q rest ok).ringUnit o = s.ringUnit o)
      ∧ { s.finishRequest q rest ok with
            ringU := s.ringU, ringN := s.ringN, requests := s.requests, queue := s.queue, host := s.host } = s := by
  obtain ⟨hring, hflag, hhands, hkeeps⟩ := haltRing_halts (unqueued s rest) r reason q.index
  have hidle : ((unqueued s rest).haltRing r reason q.index none).mayFetch q.ring = false :=
    mayFetch_inactive (by rw [hring, if_pos hr]; simp)
  have hreq : ((unqueued s rest).haltRing r reason q.index none).requests = rest := by simp
  rw [finishRequest_taken hd houtcome hidle]
  generalize (unqueued s rest).haltRing r reason q.index none = z at *
  have hserves := State.serve_servesNext (s := z) (by rw [hreq]; exact hwaits)
  rw [hreq] at hserves
  refine ⟨hserves, ?_, (State.flag_congr (by simp) _).trans hflag, ?_, fun o ho => ?_, ?_⟩
  · rw [serve_ringUnit, hring, if_pos rfl, ringUnit_with_requests s rest]
  · exact handsOn_trans (serve_handsOn z) (handsOn_trans hhands
      (State.handsOn_post (State.handsOn_raise (t := unqueued s rest) (v := s) ⟨rfl, rfl, rfl⟩ _) rfl _))
  · rw [serve_ringUnit, hring, if_neg ho, ringUnit_with_requests s rest]
  · rw [serve_eq]
    exact congrArg (fun x : State => { x with requests := s.requests }) hkeeps

end Halts

/-! ### A RECORD_READ that takes its record (R119, R120, R121, R122) -/

/-- A ring with a record taken from its head (R119). -/
abbrev afterTaking (s : State) (r : Ring) (record : RingRecord) : State :=
  s.setRing r { s.ringUnit r with
    head := ((s.ringUnit r).head + 1) % (s.ringUnit r).length
    pending := (s.ringUnit r).pending - 1
    current := some record }

/-- What makes a record invalid (R120). -/
theorem invalid_iff (record : RingRecord) : record.invalid = true ↔
    record.station = 0 ∨ 120 < record.outLength.toNat ∨ 120 < record.inCapacity.toNat
      ∨ 3 < record.retryLimit.toNat := by
  simp only [RingRecord.invalid, Bool.or_eq_true, decide_eq_true_eq, or_assoc]
  rfl

/-- What makes a record valid (R120). -/
theorem valid_of {record : RingRecord} (hstation : record.station ≠ 0) (hout : record.outLength.toNat ≤ 120)
    (hin : record.inCapacity.toNat ≤ 120) (hretry : record.retryLimit.toNat ≤ 3) : record.invalid = false := by
  rw [← Bool.not_eq_true, invalid_iff]
  simp only [hstation, false_or]
  omega

section Takes
variable {s : State} {r : Ring} {w0 w1 w2 w3 : Word} {record : RingRecord}

theorem afterTaking_recordVerdict (x : RingRecord) :
    (afterTaking s r record).recordVerdict x = s.recordVerdict x := by cases r <;> rfl

theorem afterTaking_ringUnit (o : Ring) : (afterTaking s r record).ringUnit o =
    if o = r then { s.ringUnit r with
      head := ((s.ringUnit r).head + 1) % (s.ringUnit r).length
      pending := (s.ringUnit r).pending - 1
      current := some record } else s.ringUnit o := State.ringUnit_setRing ..

variable (hrecord : record = recordOfWords (BitVec.ofNat 8 (s.ringUnit r).head) w0 w1 w2 w3)
include hrecord

/-- A record that is completed as it is taken: an invalid one, or one of out length 0 that a staging test completes
(R120, R122). -/
theorem takeRecord_completes {result : Result}
    (h : record.invalid = true ∧ result = .badRecord
      ∨ record.invalid = false ∧ record.outLength = 0 ∧ s.recordVerdict record = some result) :
    s.takeRecord r w0 w1 w2 w3 = (afterTaking s r record).completeRecord r record result none := by
  unfold State.takeRecord
  simp only [← hrecord]
  rcases h with ⟨hi, rfl⟩ | ⟨hi, hlen, hv⟩
  · rw [if_pos hi]
  · rw [if_neg (by simp [hi]), if_pos hlen]
    simp only [State.stageRecord, afterTaking_recordVerdict, hv]

/-- A valid record of out length 0 goes at once to the staging tests (R121). -/
theorem takeRecord_stages (hi : record.invalid = false) (hlen : record.outLength = 0) :
    s.takeRecord r w0 w1 w2 w3 = (afterTaking s r record).stageRecord r record := by
  unfold State.takeRecord
  simp only [← hrecord]
  rw [if_neg (by simp [hi]), if_pos hlen]

/-- A valid record with out data has its DATA_READ issued (R121). -/
theorem takeRecord_loads (hi : record.invalid = false) (hlen : record.outLength ≠ 0) :
    s.takeRecord r w0 w1 w2 w3 =
      ((afterTaking s r record).setRing r { (afterTaking s r record).ringUnit r with stage := .loading }).issue
        (.fresh .dataRead r record.index record.outAddress record.outLength.toNat []) := by
  unfold State.takeRecord
  simp only [← hrecord]
  rw [if_neg (by simp [hi]), if_neg hlen]

/-- What the taking of a record can do: complete it, stage it, or have its out data read (R120, R121, R122). -/
theorem takeRecord_cases :
    (∃ result, s.takeRecord r w0 w1 w2 w3 = (afterTaking s r record).completeRecord r record result none)
      ∨ s.takeRecord r w0 w1 w2 w3 = (afterTaking s r record).stageRecord r record ∧ s.recordVerdict record = none
      ∨ s.takeRecord r w0 w1 w2 w3 =
        ((afterTaking s r record).setRing r { (afterTaking s r record).ringUnit r with stage := .loading }).issue
          (.fresh .dataRead r record.index record.outAddress record.outLength.toNat []) := by
  by_cases hi : record.invalid = true
  · exact .inl ⟨_, takeRecord_completes hrecord (.inl ⟨hi, rfl⟩)⟩
  · rw [Bool.not_eq_true] at hi
    by_cases hlen : record.outLength = 0
    · cases hv : s.recordVerdict record with
      | none => exact .inr (.inl ⟨takeRecord_stages hrecord hi hlen, rfl⟩)
      | some result => exact .inl ⟨_, takeRecord_completes hrecord (.inr ⟨hi, hlen, hv⟩)⟩
    · exact .inr (.inr (takeRecord_loads hrecord hi hlen))

omit hrecord in
/-- Taking a record leaves the other ring, and its own with a record or a request under way (R118). -/
theorem takeRecord_rings : ((s.takeRecord r w0 w1 w2 w3).ringUnit r).stage ≠ .none
    ∧ ∀ o, o ≠ r → (s.takeRecord r w0 w1 w2 w3).ringUnit o = s.ringUnit o := by
  have hother (x : RingRecord) (o : Ring) (ho : o ≠ r) : (afterTaking s r x).ringUnit o = s.ringUnit o := by
    rw [afterTaking_ringUnit, if_neg ho]
  obtain ⟨record, hrecord⟩ : ∃ record, record = recordOfWords (BitVec.ofNat 8 (s.ringUnit r).head) w0 w1 w2 w3 :=
    ⟨_, rfl⟩
  rcases takeRecord_cases hrecord with ⟨result, h⟩ | ⟨h, hv⟩ | h <;> rw [h]
  · refine ⟨by simp [completeRecord_ringUnit], fun o ho => ?_⟩
    rw [completeRecord_ringUnit, if_neg ho, hother _ o ho]
  · obtain ⟨hring, -, -⟩ := stageRecord_stages (s := afterTaking s r record) (r := r)
      ((afterTaking_recordVerdict _).trans hv)
    refine ⟨by simp [hring], fun o ho => ?_⟩
    rw [hring, if_neg ho, hother _ o ho]
  · refine ⟨by simp, fun o ho => ?_⟩
    rw [issue_ringUnit, State.ringUnit_setRing, if_neg ho, hother _ o ho]

end Takes

/-- The last answer with a CONTROLLER owner takes the record, and the oldest request waiting begins (R119, R138). -/
theorem exec_takesRecord {s : State} {q : Request} {rest : List Request} {r : Ring} {w4 w0 w1 w2 w3 : Word}
    (hq : s.requests = q :: rest) (hbegun : q.begun = true) (hd : q.discarded = false) (hkind : q.kind = .recordRead)
    (hr : q.ring = r) (hlast : q.transfers.length ≤ q.answered + 1) (hwords : q.words = [w4, w0, w1, w2, w3])
    (howner : w4.getLsbD 0 = true) (w5 : Word) :
    exec (.memoryTransferAnswer true w5) s = .next ((unqueued s rest).takeRecord r w0 w1 w2 w3).serve := by
  have howned : ownedByController w4 = true := howner
  have houtcome : (unqueued s rest).takeOutcome (answeredWith q w5) true
      = (unqueued s rest).takeRecord r w0 w1 w2 w3 := by
    simp [State.takeOutcome, hkind, State.recordReadDone, hr, hwords, howned]
  obtain ⟨hbusy, -⟩ := takeRecord_rings (s := unqueued s rest) (r := r) (w0 := w0) (w1 := w1) (w2 := w2) (w3 := w3)
  rw [exec_lastAnswer hq hbegun hlast]
  exact congrArg _ (finishRequest_taken hd houtcome (mayFetch_busy (by rwa [hr])))

/-- Settles O36: a RECORD_READ halts its ring, or takes its record, which completes, stages, or loads. -/
theorem recordReadTakesOrHalts : Obligations.RecordReadTakesOrHalts := by
  refine ⟨recordOfWords_eq, ?_⟩
  intro s q rest r w4 w0 w1 w2 w3 w5 hq hwaits hbegun hd hkind hr hactive
  have hlast : q.transfers.length = 6 := by simp [Request.transfers, hkind]
  refine ⟨fun w => ?_, fun hanswered hwords howner => ?_, fun hanswered hwords howner record taken hrecord htaken => ?_⟩
  · exact ⟨_, exec_errorAnswer hq hbegun w, finishRequest_halts (reason := .fetchFault) hwaits hd hr (by
      simp [State.takeOutcome, hkind, State.recordReadDone, hr])⟩
  · refine ⟨_, exec_lastAnswer hq hbegun (by omega) w5, finishRequest_halts (reason := .ownership) hwaits hd hr ?_⟩
    have howned : ownedByController w4 = false := howner
    simp [State.takeOutcome, hkind, State.recordReadDone, hr, hwords, howned]
  · have hrecord' : record = recordOfWords (BitVec.ofNat 8 ((unqueued s rest).ringUnit r).head) w0 w1 w2 w3 := by
      rw [hrecord, ringUnit_with_requests s rest]
    obtain ⟨-, hothers⟩ := takeRecord_rings (s := unqueued s rest) (r := r) (w0 := w0) (w1 := w1) (w2 := w2) (w3 := w3)
    have htaking : (afterTaking (unqueued s rest) r record).ringUnit r = { taken with current := some record } := by
      rw [afterTaking_ringUnit, if_pos rfl, htaken, ringUnit_with_requests s rest]
    have hwaiting : (afterTaking (unqueued s rest) r record).requests = rest := by simp
    refine ⟨_, exec_takesRecord hq hbegun hd hkind hr (by omega) hwords howner w5, fun o ho => ?_, by simp,
      fun result hresult => ?_, fun h1 h2 h3 h4 h5 => ?_, fun h1 h2 h3 h4 h5 => ?_⟩
    · rw [serve_ringUnit, hothers o ho, ringUnit_with_requests s rest]
    · have hcase : record.invalid = true ∧ result = .badRecord
          ∨ record.invalid = false ∧ record.outLength = 0 ∧ (unqueued s rest).recordVerdict record = some result := by
        rcases hresult with ⟨hinvalid, hbad⟩ | ⟨h1, h2, h3, h4, hv⟩
        · exact .inl ⟨(invalid_iff record).mpr hinvalid, hbad⟩
        · exact .inr ⟨valid_of h1 (by simp [h2]) h3 h4, h2, hv⟩
      have hserves := completeRecord_servesNext (s := afterTaking (unqueued s rest) r record) (by rwa [hwaiting]) r
        record result
      have hwrite : (afterTaking (unqueued s rest) r record).statusWriteRequest r record = s.statusWriteRequest r record := by
        simp [State.statusWriteRequest]
      rw [hwaiting, hwrite] at hserves
      rw [takeRecord_completes hrecord' hcase, completeRecord_noReply, serve_issue, ← completeRecord_noReply]
      refine ⟨?_, hserves, by simp⟩
      rw [completeRecord_ringUnit, if_pos rfl, htaking]
      simp
    · rw [takeRecord_loads hrecord' (valid_of h1 h2 h3 h4) h5, serve_issue]
      rw [htaking]
      have hreq : ((afterTaking (unqueued s rest) r record).setRing r
          { taken with stage := .loading, current := some record }).requests = rest := by simp
      have hserves := State.issue_servesNext (s := (afterTaking (unqueued s rest) r record).setRing r
          { taken with stage := .loading, current := some record })
        (q := .fresh .dataRead r record.index record.outAddress record.outLength.toNat []) (by rwa [hreq]) rfl
      rw [hreq] at hserves
      exact ⟨by simp, hserves, by simp⟩
    · have hv : (afterTaking (unqueued s rest) r record).recordVerdict record = none :=
        (afterTaking_recordVerdict record).trans h5
      rw [takeRecord_stages hrecord' (valid_of h1 (by simp [h2]) h3 h4) h2]
      obtain ⟨hring, hreq, hcycle⟩ := stageRecord_stages (r := r) hv
      have hserves := State.serve_servesNext (s := (afterTaking (unqueued s rest) r record).stageRecord r record)
        (by rwa [hreq, hwaiting])
      rw [hreq, hwaiting] at hserves
      refine ⟨?_, hserves, ?_⟩
      · rw [serve_ringUnit, hring, if_pos rfl, htaking]
      · simp [hcycle]

end Sys2Proof.Machine.TheCycle
end

section
namespace Sys2Proof.Machine.TheCycle

/-! ### What a stay's end reads (R57, R75, R151, R165) -/

/-- Two states that hand on the same, with one configuration and in one cycle: all that a stay's end reads. -/
structure SameBooks (t v : State) : Prop where
  hands : t.handsOn v
  settings : t.settings = v.settings
  number : t.cycle.number = v.cycle.number

namespace SameBooks
variable {t v : State} (h : SameBooks t v)
include h

theorem station (a : Address) : t.station a = v.station a := State.station_congr h.hands.1 a

theorem queueFull : t.queueFull = v.queueFull := by rw [State.queueFull, State.queueFull, h.hands.2.1]

theorem post (e : Entry) : SameBooks (t.post e) (v.post e) :=
  ⟨State.handsOn_post h.hands h.settings e, by simp [h.settings], by simp [h.number]⟩

theorem raise (f : IntFlag) : SameBooks (t.raise f) (v.raise f) := ⟨State.handsOn_raise h.hands f, h.settings, h.number⟩

theorem setStation (a : Address) (r : Station) : SameBooks (t.setStation a r) (v.setStation a r) := by
  obtain ⟨hstations, hqueue, hhost⟩ := h.hands
  refine ⟨⟨?_, by simp [hqueue], by simp [hhost]⟩, by simp [h.settings], by simp [h.number]⟩
  unfold State.setStation
  split
  · exact congrArg (fun x : Vector Station 62 => x.set _ r) hstations
  · exact hstations

theorem addSticky (a : Address) (k : KindSet) : SameBooks (t.addSticky a k) (v.addSticky a k) := by
  rw [State.addSticky, h.station]
  exact h.setStation ..

theorem alert (e : Entry) : SameBooks (t.alert e) (v.alert e) := by
  unfold State.alert
  rw [h.queueFull]
  split
  · exact (h.post e).addSticky ..
  · exact (h.post e).raise _

theorem supervise (a : Address) (answered : Bool) : SameBooks (t.supervise a answered) (v.supervise a answered) := by
  simp only [State.supervise, State.enterLost, State.postStation, h.station, h.settings, State.setStation_frame,
    h.number]
  split
  · exact h
  · split
    · exact h.setStation ..
    · split
      · exact (h.setStation ..).post _
      · exact h.setStation ..

theorem account (a : Address) (k : KindSet) (e : Entry) : SameBooks (t.account a k e) (v.account a k e) := by
  simp only [State.account, h.station, h.number]
  split
  · exact h
  · split
    · exact h.addSticky ..
    · exact (h.alert _).addSticky ..

theorem afterAccounting (source : Source) (a : Address) (k : KindSet) :
    SameBooks (t.afterAccounting source a k) (v.afterAccounting source a k) := by
  unfold State.afterAccounting
  split
  · exact h
  · cases source with
    | slot i => exact h.account ..
    | ring r i => exact h.account ..
    | rollCall => exact h

theorem handedOn (e : Exchange) : SameBooks (handedOn t e) (handedOn v e) := by
  unfold TheCycle.handedOn
  split
  · exact h.afterAccounting ..
  · exact (h.supervise ..).afterAccounting ..

theorem withSchedule (x : Schedule) : SameBooks { t with schedule := x } { v with schedule := x } :=
  ⟨h.hands, h.settings, h.number⟩

/-- The entry to HALTED hands on the same when a swap is pending in both or in neither (R98, R188). -/
theorem afterHalting (hs : t.schedule = v.schedule) : SameBooks t.afterHalting v.afterHalting := by
  unfold State.afterHalting
  rw [hs, h.number]
  split
  · exact ((h.withSchedule _).post _).raise _
  · exact h.raise _

end SameBooks

/-! ### A decision beside an exchange's end (R179) -/

theorem handsOn_setDecision {t v : State} (h : t.handsOn v) (code arg : Byte) (d : Decision) (k : BitVec 4) (i : Byte) :
    (t.setDecision code arg d k i).handsOn (v.setDecision code arg d k i) := by
  obtain ⟨h1, h2, h3⟩ := h
  exact ⟨h1, h2, by simp only [State.setDecision, h3]⟩

/-- A post leaves the decision of the last command (R179). -/
theorem post_setDecision (s : State) (e : Entry) (code arg : Byte) (d : Decision) (k : BitVec 4) (i : Byte) :
    (s.setDecision code arg d k i).post e = (s.post e).setDecision code arg d k i := by
  unfold State.post State.queueFull State.setDecision
  dsimp only
  split
  · rfl
  · split <;> rfl

theorem raise_setDecision (s : State) (f : IntFlag) (code arg : Byte) (d : Decision) (k : BitVec 4) (i : Byte) :
    (s.setDecision code arg d k i).raise f = (s.raise f).setDecision code arg d k i := rfl

/-- The entry to HALTED leaves the decision of the last command (R179, R188). -/
theorem afterHalting_setDecision (s : State) (code arg : Byte) (d : Decision) (k : BitVec 4) (i : Byte) :
    (s.setDecision code arg d k i).afterHalting = s.afterHalting.setDecision code arg d k i := by
  have hschedule : (s.setDecision code arg d k i).schedule = s.schedule := rfl
  unfold State.afterHalting
  rw [← raise_setDecision, hschedule]
  split
  · rw [← post_setDecision]
    rfl
  · rfl

@[simp] theorem afterHalting_schedule (v : State) : v.afterHalting.schedule =
    if v.schedule.swapPending = true then { v.schedule with
      active := v.schedule.active.other, status := Vector.replicate 32 none, swapPending := false }
    else v.schedule := by
  unfold State.afterHalting
  split <;> simp

/-- An exchange's end, with the decision of the command that made it, after a state that reads the same (R57, R179,
R188). -/
theorem closes_decided {t v u : State} {m : CycleUnit} (h : t.closes v m) (hbooks : SameBooks v u)
    (hengine : v.engine = u.engine) (hcycle : v.cycle = u.cycle) (hline : v.line = u.line)
    (hwatch : v.lateWatch = u.lateWatch) (hframe : v.lateFrame = u.lateFrame) (hschedule : v.schedule = u.schedule)
    (code arg : Byte) (d : Decision) (k : BitVec 4) (i : Byte) :
    (t.setDecision code arg d k i).closes (u.setDecision code arg d k i) m := by
  obtain ⟨hx, hrun, hstop⟩ := h
  simp only [hengine, hcycle, hline, hwatch, hframe] at hrun hstop
  refine ⟨hx, fun he => ?_, fun he => ?_⟩
  · obtain ⟨h1, h2, h3, h4, h5, h6, h7⟩ := hrun he
    exact ⟨h1, h2, h3, h4, h5, h6.trans hschedule, handsOn_setDecision (handsOn_trans h7 hbooks.hands) ..⟩
  · obtain ⟨h1, h2, h3, h4, h5, h6, h7⟩ := hstop he
    rw [afterHalting_setDecision]
    refine ⟨h1, h2, h3, h4, h5, ?_,
      handsOn_setDecision (handsOn_trans h7 (hbooks.afterHalting hschedule).hands) ..⟩
    simp [h6, hschedule]

end Sys2Proof.Machine.TheCycle
end

section
namespace Sys2Proof.Machine.TheCycle

/-! ### RING_RESET (R133, R134, R144) -/

/-- A ring given up: OFF, its queued requests dropped and its begun one discarded (R133, R144). -/
def gaveUp (s : State) (r : Ring) : State :=
  { s.setRing r { RingUnit.reset with base := (s.ringUnit r).base, length := (s.ringUnit r).length } with
    requests := dropRequests (fun q => q.ring = r) s.requests }

theorem gaveUp_ringUnit (s : State) (r o : Ring) : (gaveUp s r).ringUnit o =
    if o = r then { RingUnit.reset with base := (s.ringUnit r).base, length := (s.ringUnit r).length }
    else s.ringUnit o := by
  rw [gaveUp, ringUnit_with_requests, State.ringUnit_setRing]

theorem dropRequests_eq (r : Ring) (l : List Request) : dropRequests (fun q => q.ring = r) l =
    (l.filter fun q => decide (q.ring ≠ r) || q.begun).map (fun q =>
      if q.ring = r then { q with discarded := true } else q) := by
  simp [dropRequests]

/-- Giving a ring up changes the ring and the requests alone (R133). -/
@[simp] theorem gaveUp_frame (s : State) (r : Ring) :
    (gaveUp s r).engine = s.engine ∧ (gaveUp s r).resetAsserted = s.resetAsserted ∧ (gaveUp s r).line = s.line ∧
      (gaveUp s r).cycle = s.cycle ∧ (gaveUp s r).settings = s.settings ∧ (gaveUp s r).context = s.context ∧
      (gaveUp s r).lateWatch = s.lateWatch ∧ (gaveUp s r).lateFrame = s.lateFrame ∧
      (gaveUp s r).stations = s.stations ∧ (gaveUp s r).stationSelect = s.stationSelect ∧
      (gaveUp s r).schedule = s.schedule ∧ (gaveUp s r).exmem = s.exmem ∧ (gaveUp s r).exmemAddr = s.exmemAddr ∧
      (gaveUp s r).orderIndex = s.orderIndex ∧ (gaveUp s r).queue = s.queue ∧ (gaveUp s r).host = s.host ∧
      (gaveUp s r).pending = s.pending := by
  simp [gaveUp]

theorem gaveUp_sameBooks (s : State) (r : Ring) : SameBooks (gaveUp s r) s :=
  ⟨⟨by simp, by simp, by simp⟩, by simp, by simp⟩

/-- RING_RESET gives the ring up and orphans its exchange (R133, R134). -/
theorem resetRing_eq (s : State) (r : Ring) : s.resetRing r = (gaveUp s r).orphan r := by cases r <;> rfl

theorem ringOfArg_none {arg : Byte} (h : 1 < arg.toNat) : ringOfArg arg = none := by
  unfold ringOfArg
  split
  · omega
  · omega
  · rfl

theorem ringOfArg_some {arg : Byte} {r : Ring} (h : arg.toNat = ringCode r) : ringOfArg arg = some r := by
  unfold ringOfArg
  rw [h]
  cases r <;> rfl

/-- RING_RESET of a ring outside INIT (R133). -/
theorem exec_ringReset {s : State} {arg : Byte} {r : Ring} (hi : s.engine ≠ .init) (h : arg.toNat = ringCode r) :
    exec (.ringReset arg) s = .next (((gaveUp s r).orphan r).setDecision 12 arg .done 0 0) := by
  change execRingReset arg s = _
  simp only [execRingReset, State.hostAccess_taken hi, State.ringCommand, ringOfArg_some h, resetRing_eq]
  rfl

/-- An exchange of another source is untouched (R134). -/
theorem orphan_untouched {s : State} {r : Ring} (h : ∀ e i, s.context = some e → e.source ≠ .ring r i) :
    s.orphan r = s := by
  unfold State.orphan
  cases hx : s.context with
  | none => rfl
  | some e =>
    have hs := fun i => h e i hx
    cases hsource : e.source with
    | slot i => simp [hsource]
    | rollCall => simp [hsource]
    | ring q i =>
      have hq : q ≠ r := fun hq => hs i (hq ▸ hsource)
      simp [hsource, hq]

/-- An exchange of the ring under way runs on, orphaned (R64, R134). -/
theorem orphan_runsOn {s : State} {r : Ring} {e : Exchange} {i : Byte} (hx : s.context = some e)
    (hs : e.source = .ring r i) (he : e.state ≠ .ending) :
    s.orphan r = { s with context := some { e with orphaned := true } } := by
  simp [State.orphan, hx, hs, he]

/-- An exchange of the ring that waits for a retry ends, its result discarded (R64, R134). -/
theorem orphan_ends {s : State} {r : Ring} {e : Exchange} {i : Byte} (hx : s.context = some e)
    (hs : e.source = .ring r i) (he : e.state = .ending) :
    s.orphan r = (handedOn s e).emptyContext (.ring r i) := by
  have h := endExchange_discards (s := s) (e := { e with orphaned := true }) ((e.last.map (·.result)).getD .noReply)
    e.reply hs rfl
  have hsame : handedOn s { e with orphaned := true } = handedOn s e := rfl
  rw [hsame] at h
  simp only [hs, he] at h
  simp only [State.orphan, hx, hs, he, if_true, h]

/-- An exchange of the ring that waits for a retry ends as its stay's end leaves it (R57, R64, R134). -/
theorem gaveUp_closes {s : State} {r : Ring} {e : Exchange} {i : Byte} (arg : Byte) (hx : s.context = some e)
    (hs : e.source = .ring r i) (he : e.state = .ending) :
    (((gaveUp s r).orphan r).setDecision 12 arg .done 0 0).closes ((handedOn s e).setDecision 12 arg .done 0 0)
        s.cycle.selecting
      ∧ (((gaveUp s r).orphan r).setDecision 12 arg .done 0 0).keepsRest s := by
  rw [orphan_ends (s := gaveUp s r) (by simpa using hx) hs he]
  refine ⟨?_, by simp [keepsRest_iff]⟩
  have hcloses := emptyContext_closes_any (handedOn (gaveUp s r) e) (source := .ring r i) (by simp)
  have hdecided := closes_decided hcloses ((gaveUp_sameBooks s r).handedOn e) (by simp) (by simp) (by simp) (by simp)
    (by simp) (by simp) 12 arg .done 0 0
  simpa using hdecided

/-- Orphaning an exchange leaves the rings and the requests (R134). -/
theorem orphan_keepsRings (s : State) (r : Ring) :
    (∀ o, (s.orphan r).ringUnit o = s.ringUnit o) ∧ (s.orphan r).requests = s.requests := by
  by_cases h : ∀ e i, s.context = some e → e.source ≠ .ring r i
  · rw [orphan_untouched h]
    exact ⟨fun _ => rfl, rfl⟩
  · push Not at h
    obtain ⟨e, i, hx, hs⟩ := h
    by_cases he : e.state = .ending
    · rw [orphan_ends hx hs he]
      exact ⟨fun o => by rw [emptyContext_ringUnit, handedOn_ringUnit], by simp⟩
    · rw [orphan_runsOn hx hs he]
      exact ⟨fun o => by cases o <;> rfl, rfl⟩

/-! ### The end of a request that a RING_RESET discarded (R118, R144) -/

/-- The outcome of a discarded request goes nowhere; its ring may fetch, and the oldest waiting begins (R118, R144). -/
theorem finishRequest_discarded {s : State} {q : Request} {rest : List Request} {ok : Bool} (hd : q.discarded = true)
    (hsole : q.sole = false) : s.finishRequest q rest ok = ((unqueued s rest).tryFetch q.ring).serve := by
  simp only [State.finishRequest, hd, if_true, State.fetchAfter, hsole, Bool.false_eq_true, if_false]

theorem exec_discardedEnds {s : State} {q : Request} {rest : List Request} {success : Bool}
    (hq : s.requests = q :: rest) (hbegun : q.begun = true) (hd : q.discarded = true) (hsole : q.sole = false)
    (hend : success = false ∨ q.transfers.length ≤ q.answered + 1) (word : Word) :
    exec (.memoryTransferAnswer success word) s = .next ((unqueued s rest).tryFetch q.ring).serve := by
  cases success with
  | false => rw [exec_errorAnswer hq hbegun, finishRequest_discarded hd hsole]
  | true =>
    rw [exec_lastAnswer hq hbegun (by simpa using hend)]
    exact congrArg _ (finishRequest_discarded hd hsole)

/-- When a ring may fetch (R118). -/
theorem mayFetch_iff (s : State) (r : Ring) : s.mayFetch r = true ↔
    (s.ringUnit r).state = .active ∧ 0 < (s.ringUnit r).pending ∧ (s.ringUnit r).stage = .none
      ∧ ∀ p ∈ s.requests, p.ring ≠ r ∧ p.sole = false := by
  simp [State.mayFetch, and_assoc]

/-- A ring that may fetch issues the RECORD_READ of the record at its head (R118). -/
theorem tryFetch_fetches {s : State} {r : Ring} (h : s.mayFetch r = true) :
    s.tryFetch r = (s.setRing r { s.ringUnit r with stage := .fetching }).issue (s.fetchRequest r) := by
  unfold State.tryFetch
  rw [if_pos h]
  rfl

/-- Settles O52: the ring is given up and its exchange orphaned; the discarded request ends with no outcome. -/
theorem ringResetGivesUpTheRing : Obligations.RingResetGivesUpTheRing := by
  refine ⟨fun arg s r hi => ⟨fun harg => ?_, fun harg => ?_⟩, ?_⟩
  · change execRingReset arg s = _
    simp only [execRingReset, State.hostAccess_taken hi, State.ringCommand, ringOfArg_none harg]
    rfl
  · have hset (v : State) (o : Ring) : (v.setDecision 12 arg .done 0 0).ringUnit o = v.ringUnit o := by
      cases o <;> rfl
    obtain ⟨hring, hreq⟩ := orphan_keepsRings (gaveUp s r) r
    refine ⟨_, exec_ringReset hi harg, ?_, fun o ho => ?_, ?_, rfl, fun hx => ?_, fun hx => ?_, fun e i hx hs he => ?_,
      fun e i u hx hs he hu => ?_⟩
    · rw [hset, hring, gaveUp_ringUnit, if_pos rfl]
    · rw [hset, hring, gaveUp_ringUnit, if_neg ho]
    · exact hreq.trans (dropRequests_eq r s.requests)
    · by_cases h : ∀ e i, s.context = some e → e.source ≠ .ring r i
      · simp [orphan_untouched (s := gaveUp s r) (by simpa using h), State.setDecision]
      · push Not at h
        obtain ⟨e, i, hxe, hs⟩ := h
        simp [orphan_runsOn (s := gaveUp s r) (by simpa using hxe) hs (hx e i hxe hs), State.setDecision]
    · simp [orphan_untouched (s := gaveUp s r) (by simpa using hx), State.setDecision]
    · simp [orphan_runsOn (s := gaveUp s r) (by simpa using hx) hs he, State.setDecision]
    · obtain rfl : u = handedOn s e := hu
      obtain ⟨hcloses, hrest⟩ := gaveUp_closes arg hx hs he
      exact ⟨hcloses.1, hcloses, hrest⟩
  · intro s q rest success word fetches fetch hq hbegun hd hsole hend hwaits hfetches hnone hsome
    refine ⟨_, exec_discardedEnds hq hbegun hd hsole hend word, ?_⟩
    have hmay : (unqueued s rest).mayFetch q.ring = true ↔ fetches := by
      rw [mayFetch_iff, hfetches]
      simp
    by_cases hf : fetches
    · rw [hsome hf, tryFetch_fetches (hmay.mpr hf), serve_issue]
      have hreq : ((unqueued s rest).setRing q.ring
        { (unqueued s rest).ringUnit q.ring with stage := .fetching }).requests = rest := by simp
      have hserves := State.issue_servesNext (s := (unqueued s rest).setRing q.ring
        { (unqueued s rest).ringUnit q.ring with stage := .fetching })
        (q := (unqueued s rest).fetchRequest q.ring) (by rwa [hreq]) rfl
      have hfetch : (unqueued s rest).fetchRequest q.ring = s.fetchRequest q.ring := by
        simp [State.fetchRequest]
      rw [hreq, hfetch] at hserves
      rw [hfetch]
      refine ⟨fun _ => by simp, fun h => absurd hf h, fun r hr => ?_, hserves, by simp⟩
      rw [issue_ringUnit, State.ringUnit_setRing, if_neg hr, ringUnit_with_requests s rest]
    · rw [hnone hf, State.tryFetch_held (by simpa [hf] using hmay), List.append_nil]
      refine ⟨fun h => absurd h hf, fun _ => by simp, fun r _ => by simp, State.serve_servesNext hwaits, by simp⟩

end Sys2Proof.Machine.TheCycle
end

section
namespace Sys2Proof.Machine.TheCycle

/-! ### The bytes of a DATA_READ (R121, R140) -/

/-- Clearing the low two bits of an address gives its aligned word (R140). -/
theorem toNat_and_aligned (x : Word) : (x &&& 0xFFFFFFFC).toNat = x.toNat / 4 * 4 := by
  have hmask : ∀ i : Fin 32, (0xFFFFFFFC : Word).getLsbD i.val = decide (2 ≤ i.val) := by decide
  have hshift : x &&& (0xFFFFFFFC : Word) = (x >>> 2) <<< 2 := by
    apply BitVec.eq_of_getLsbD_eq
    intro i hi
    have := hmask ⟨i, hi⟩
    by_cases h : 2 ≤ i
    · simp_all
      omega
    · simp_all
  rw [hshift]
  have := x.isLt
  simp only [BitVec.toNat_shiftLeft, BitVec.toNat_ushiftRight, Nat.shiftLeft_eq, Nat.shiftRight_eq_div_pow]
  omega

/-- The addresses within one aligned word have that word's address (R140). -/
theorem aligned_eq {address : Word} {j : Nat} (h : address.toNat % 4 + j < 4) :
    address - BitVec.ofNat 32 (address.toNat % 4) = (address + BitVec.ofNat 32 j) &&& 0xFFFFFFFC := by
  apply BitVec.eq_of_toNat_eq
  have := address.isLt
  rw [toNat_and_aligned]
  simp only [BitVec.toNat_sub, BitVec.toNat_add, BitVec.toNat_ofNat]
  omega

/-- Byte k of a word is the word over 256^k (R121). -/
theorem wordBytes_getElem? (w : Word) {k : Nat} (h : k < 4) :
    (wordBytes w)[k]? = some (BitVec.ofNat 8 (w.toNat / 256 ^ k)) := by
  have hfield (lo : Nat) : w.extractLsb' lo 8 = BitVec.ofNat 8 (w.toNat / 2 ^ lo) := by
    rw [extractLsb'_eq_ofNat]
    apply BitVec.eq_of_toNat_eq
    simp
  simp only [wordBytes, hfield]
  interval_cases k <;> rfl

/-- The bytes that transfers read from their words (R121, R140). -/
def bytesOf (transfers : List Transfer) (words : List Word) : List Byte :=
  (transfers.zip words).flatMap fun (t, w) => ((wordBytes w).drop t.lane).take t.count

/-- The bytes that one transfer reads from its word (R121). -/
theorem laneBytes {lane here : Nat} (h : lane + here ≤ 4) (w : Word) :
    (((wordBytes w).drop lane).take here).length = here
      ∧ ∀ j < here, (((wordBytes w).drop lane).take here)[j]? = some (BitVec.ofNat 8 (w.toNat / 256 ^ (lane + j))) := by
  refine ⟨by simp [wordBytes]; omega, fun j hj => ?_⟩
  rw [List.getElem?_take_of_lt hj, List.getElem?_drop, wordBytes_getElem? w (by omega)]

/-- What the transfers of a run of bytes read: as many bytes as the run has, each from the word that the transfer of
its aligned word has read (R121, R140). -/
def ReadsRun (transfers : List Transfer) (words : List Word) (address : Word) (count : Nat) : Prop :=
  (bytesOf transfers words).length = count
    ∧ ∀ j < count,
      (bytesOf transfers words)[j]? =
          some (BitVec.ofNat 8 ((words.getD ((address.toNat % 4 + j) / 4) 0).toNat / 256 ^ ((address.toNat % 4 + j) % 4)))
        ∧ (transfers.map (·.address))[(address.toNat % 4 + j) / 4]? = some ((address + BitVec.ofNat 32 j) &&& 0xFFFFFFFC)

/-- One transfer reads what lies within its aligned word (R140). -/
theorem readsRun_single {address : Word} {count : Nat} (h : address.toNat % 4 + count ≤ 4) (write : Bool)
    (data : List Byte) (w : Word) :
    ReadsRun [{ address := address - BitVec.ofNat 32 (address.toNat % 4), write := write
                lane := address.toNat % 4, count := count, data := data }] [w] address count := by
  obtain ⟨hlength, hbyte⟩ := laneBytes h w
  refine ⟨by simpa [bytesOf] using hlength, fun j hj => ?_⟩
  have hword : (address.toNat % 4 + j) / 4 = 0 := by omega
  have hplace : (address.toNat % 4 + j) % 4 = address.toNat % 4 + j := by omega
  rw [hword, hplace]
  exact ⟨by simpa [bytesOf] using hbyte j hj, by simp [aligned_eq (address := address) (j := j) (by omega)]⟩

/-- A transfer to the end of its aligned word, and those of the rest of the run (R140). -/
theorem readsRun_cons {address : Word} {count here : Nat} {transfers : List Transfer} {words : List Word}
    (hhere : address.toNat % 4 + here = 4) (hcount : here ≤ count) (write : Bool) (data : List Byte) (w : Word)
    (h : ReadsRun transfers words (address + BitVec.ofNat 32 here) (count - here)) :
    ReadsRun ({ address := address - BitVec.ofNat 32 (address.toNat % 4), write := write
                lane := address.toNat % 4, count := here, data := data } :: transfers) (w :: words) address count := by
  obtain ⟨hlength, hbyte⟩ := laneBytes (le_of_eq hhere) w
  obtain ⟨htail, hrest⟩ := h
  have hcons : bytesOf ({ address := address - BitVec.ofNat 32 (address.toNat % 4), write := write
                          lane := address.toNat % 4, count := here, data := data } :: transfers) (w :: words)
      = ((wordBytes w).drop (address.toNat % 4)).take here ++ bytesOf transfers words := by
    simp [bytesOf]
  have halign : (address + BitVec.ofNat 32 here).toNat % 4 = 0 := by
    simp only [BitVec.toNat_add, BitVec.toNat_ofNat]
    omega
  rw [ReadsRun, hcons]
  refine ⟨by rw [List.length_append, hlength, htail]; omega, fun j hj => ?_⟩
  by_cases hj' : j < here
  · have hword : (address.toNat % 4 + j) / 4 = 0 := by omega
    have hplace : (address.toNat % 4 + j) % 4 = address.toNat % 4 + j := by omega
    rw [hword, hplace, List.getElem?_append_left (by omega), hbyte j hj']
    exact ⟨rfl, by simp [aligned_eq (address := address) (j := j) (by omega)]⟩
  · obtain ⟨k, rfl⟩ := Nat.exists_eq_add_of_le (Nat.not_lt.mp hj')
    obtain ⟨hread, haddress⟩ := hrest k (by omega)
    rw [halign, Nat.zero_add] at hread haddress
    have hword : (address.toNat % 4 + (here + k)) / 4 = k / 4 + 1 := by omega
    have hplace : (address.toNat % 4 + (here + k)) % 4 = k % 4 := by omega
    rw [hword, hplace, List.getElem?_append_right (by omega), hlength, Nat.add_sub_cancel_left, hread]
    refine ⟨by simp, ?_⟩
    rw [List.map_cons, List.getElem?_cons_succ, haddress, BitVec.add_assoc, ← BitVec.ofNat_add]

/-- The transfers of a run of bytes read it (R121, R140). -/
theorem spans_readsRun (fuel : Nat) (write : Bool) (address : Word) (count : Nat) (data : List Byte)
    (words : List Word) (hfuel : count ≤ fuel) (hwords : words.length = (spans fuel write address count data).length) :
    ReadsRun (spans fuel write address count data) words address count := by
  induction fuel generalizing address count data words with
  | zero => exact ⟨by simp [spans, bytesOf]; omega, by omega⟩
  | succ fuel ih =>
    simp only [spans] at hwords ⊢
    split at hwords
    · rename_i hfits
      rw [if_pos hfits]
      obtain ⟨w, rfl⟩ := List.length_eq_one_iff.mp hwords
      rw [Nat.min_eq_left (by omega)]
      exact readsRun_single (by omega) ..
    · rename_i hmore
      rw [if_neg hmore]
      obtain ⟨w, words, rfl⟩ := List.exists_cons_of_length_eq_add_one hwords
      exact readsRun_cons (by omega) (by omega) _ _ _ (ih _ _ _ _ (by omega) (by simpa using hwords))

/-- The data of a DATA_READ: byte j is the byte at its address plus j (R121, R140). -/
theorem bytesRead_eq {q : Request} (hkind : q.kind = .dataRead) (hwords : q.words.length = q.transfers.length) :
    q.bytesRead.length = q.count
      ∧ ∀ (j place : Nat), j < q.count → place = q.address.toNat % 4 + j →
        q.bytesRead.getD j 0 = BitVec.ofNat 8 ((q.words.getD (place / 4) 0).toNat / 256 ^ (place % 4))
          ∧ (q.transfers.map (·.address))[place / 4]? = some ((q.address + BitVec.ofNat 32 j) &&& 0xFFFFFFFC) := by
  have htransfers : q.transfers = spans q.count false q.address q.count [] := by simp only [Request.transfers, hkind]
  rw [htransfers] at hwords
  obtain ⟨hlength, hread⟩ := spans_readsRun _ _ _ _ _ _ le_rfl hwords
  have hbytes : q.bytesRead = bytesOf (spans q.count false q.address q.count []) q.words := by
    rw [← htransfers]
    rfl
  rw [hbytes, htransfers]
  refine ⟨hlength, ?_⟩
  rintro j _ hj rfl
  obtain ⟨hbyte, haddress⟩ := hread j hj
  exact ⟨by rw [List.getD_eq_getElem?_getD, hbyte, Option.getD_some], haddress⟩

/-! ### The staging tests (R28, R30, R122) -/

theorem recordVerdict_eq (s : State) (record : RingRecord) (budget : Nat)
    (hbudget : budget = (if record.station = 63 then 10 * (6 + record.outLength.toNat)
      else 10 * (12 + record.outLength.toNat + record.inCapacity.toNat) + (s.station record.station).window)) :
    s.recordVerdict record =
      if record.station ≠ 63 ∧ (s.station record.station).state = .lost then some .stationLost
      else if record.station ≠ 63 ∧ (s.station record.station).state ∈ [.absent, .joining, .barred] then
        some .notActive
      else if record.station ≠ 63 ∧ (s.station record.station).maxPayload < record.outLength.toNat then
        some .tooLong
      else if s.settings.period < 114 + budget + s.settings.guard then some .doesNotFit
      else none := by
  have hnever : s.neverFits (s.recordBudget record) = decide (s.settings.period < 114 + budget + s.settings.guard) := by
    rw [hbudget]
    rfl
  simp only [State.recordVerdict, hnever, broadcastAddress, bne_iff_ne, Bool.and_eq_true, decide_eq_true_eq]
  cases (s.station record.station).state <;> simp [StationState.inService, StationState.outResult]

end Sys2Proof.Machine.TheCycle
end

section
namespace Sys2Proof.Machine.TheCycle

/-! ### The ends of a DATA_READ and of a DATA_WRITE (R121, R122, R127) -/

section Ends
variable {s : State} {q : Request} {rest : List Request} {ok : Bool} {r : Ring} {record : RingRecord} {result : Result}
  (hwaits : ∀ p ∈ rest, p.begun = false) (hd : q.discarded = false) (hr : q.ring = r)
include hwaits hd hr

/-- A request whose outcome completes its ring's record: the STATUS_WRITE joins behind those waiting (R125, R138). -/
theorem finishRequest_completes
    (houtcome : (unqueued s rest).takeOutcome q ok = (unqueued s rest).completeRecord r record result none) :
    (s.finishRequest q rest ok).ringUnit r = { s.ringUnit r with
        stage := .writingBack
        current := some { record with completion := some { result := result, cycle := s.cycle.number, reply := none } } }
      ∧ (s.finishRequest q rest ok).servesNext (rest ++ [s.statusWriteRequest r record])
      ∧ (∀ o, o ≠ r → (s.finishRequest q rest ok).ringUnit o = s.ringUnit o)
      ∧ { s.finishRequest q rest ok with ringU := s.ringU, ringN := s.ringN, requests := s.requests } = s := by
  have hring := completeRecord_ringUnit (unqueued s rest) r (record := record) (result := result) (reply := none)
  rw [finishRequest_taken hd houtcome (mayFetch_busy (by rw [hr, hring, if_pos rfl]; simp)), completeRecord_noReply,
    serve_issue, ← completeRecord_noReply]
  have hwrite : (unqueued s rest).statusWriteRequest r record = s.statusWriteRequest r record := by
    simp [State.statusWriteRequest]
  have hserves := completeRecord_servesNext (s := unqueued s rest) hwaits r record result
  rw [hwrite] at hserves
  refine ⟨by rw [hring, if_pos rfl, ringUnit_with_requests s rest], hserves, fun o ho => ?_, by simp⟩
  rw [hring, if_neg ho, ringUnit_with_requests s rest]

/-- A request whose outcome stages its ring's record (R122, R33). -/
theorem finishRequest_stages (houtcome : (unqueued s rest).takeOutcome q ok = (unqueued s rest).stageRecord r record)
    (hv : s.recordVerdict record = none) :
    (s.finishRequest q rest ok).servesNext rest
      ∧ (s.finishRequest q rest ok).ringUnit r = { s.ringUnit r with stage := .staged, current := some record }
      ∧ (s.finishRequest q rest ok).cycle =
          (if s.engine = .running ∧ s.context = none then s.cycle.selecting else s.cycle)
      ∧ (∀ o, o ≠ r → (s.finishRequest q rest ok).ringUnit o = s.ringUnit o)
      ∧ { s.finishRequest q rest ok with
            ringU := s.ringU, ringN := s.ringN, requests := s.requests, cycle := s.cycle } = s := by
  obtain ⟨hring, hreq, hcycle⟩ := stageRecord_stages (s := unqueued s rest) (r := r) hv
  rw [finishRequest_taken hd houtcome (mayFetch_busy (by rw [hr, hring, if_pos rfl]; simp))]
  have hserves := State.serve_servesNext (s := (unqueued s rest).stageRecord r record) (by rwa [hreq])
  rw [hreq] at hserves
  refine ⟨hserves, ?_, by simpa using hcycle, fun o ho => ?_, by simp⟩
  · rw [serve_ringUnit, hring, if_pos rfl, ringUnit_with_requests s rest]
  · rw [serve_ringUnit, hring, if_neg ho, ringUnit_with_requests s rest]

/-- A request whose outcome leaves its ring with a record under way and issues nothing: the oldest waiting begins, a
STATUS_WRITE of the ring with its words formed from the record (R126, R127, R138). -/
theorem finishRequest_goesOn {x : RingUnit} {c : Completion}
    (houtcome : (unqueued s rest).takeOutcome q ok = (unqueued s rest).setRing r x)
    (hstage : x.stage ≠ .none) (hcur : x.current = some record) (hc : record.completion = some c) :
    (s.finishRequest q rest ok).ringUnit r = x
      ∧ (s.finishRequest q rest ok).servesNext rest
      ∧ (∀ p more, rest = p :: more → p.kind = .statusWrite → p.ring = r →
          (s.finishRequest q rest ok).requests = { p with
            begun := true
            data := wordBytes (statusWord4 c.result ((c.reply.map (·.payload.length)).getD 0)
                record.tries record.reissued c.cycle)
              ++ wordBytes (statusWord5 record.causes ((c.reply.map (·.condition)).getD 0)) } :: more)
      ∧ (∀ o, o ≠ r → (s.finishRequest q rest ok).ringUnit o = s.ringUnit o)
      ∧ { s.finishRequest q rest ok with ringU := s.ringU, ringN := s.ringN, requests := s.requests } = s := by
  rw [finishRequest_taken hd houtcome (mayFetch_busy (by simpa [hr] using hstage))]
  have hreq : ((unqueued s rest).setRing r x).requests = rest := by simp
  have hserves := State.serve_servesNext (s := (unqueued s rest).setRing r x) (by rwa [hreq])
  rw [hreq] at hserves
  refine ⟨by simp, hserves, fun p more hrest hkind hring => ?_, fun o ho => ?_, by simp⟩
  · obtain ⟨-, -, hwrite⟩ := hserves
    exact hwrite p more record c hrest hkind (by simp [hring, hcur]) hc
  · rw [serve_ringUnit, State.ringUnit_setRing, if_neg ho, ringUnit_with_requests s rest]

end Ends

section Outcomes
variable {s : State} {q : Request} {record : RingRecord} (hcur : (s.ringUnit q.ring).current = some record)
include hcur

/-- The last answer of a DATA_READ takes its record to the staging tests, with the bytes read (R121, R122). -/
theorem takeOutcome_dataRead (hkind : q.kind = .dataRead) :
    s.takeOutcome q true = s.stageRecord q.ring { record with outData := q.bytesRead } := by
  simp only [State.takeOutcome, hkind, State.dataReadDone, hcur, if_true]

/-- An error of a DATA_READ completes its record (R121). -/
theorem takeOutcome_dataRead_error (hkind : q.kind = .dataRead) :
    s.takeOutcome q false = s.completeRecord q.ring record .memoryFault none := by
  simp only [State.takeOutcome, hkind, State.dataReadDone, hcur, Bool.false_eq_true, if_false]

/-- The last answer of a DATA_WRITE leaves its record to the STATUS_WRITE (R126). -/
theorem takeOutcome_dataWrite (hkind : q.kind = .dataWrite) :
    s.takeOutcome q true = s.setRing q.ring (s.ringUnit q.ring) := by
  simp only [State.takeOutcome, hkind, State.dataWriteDone, hcur, if_true]
  cases q.ring <;> rfl

/-- An error of a DATA_WRITE turns the result into MEMORY_FAULT with no reply's length (R127). -/
theorem takeOutcome_dataWrite_error (hkind : q.kind = .dataWrite) {c : Completion} (hc : record.completion = some c) :
    s.takeOutcome q false = s.setRing q.ring { s.ringUnit q.ring with
      current := some { record with
        completion := some { c with
          result := .memoryFault, reply := c.reply.map fun y => { y with payload := [] } } } } := by
  simp only [State.takeOutcome, hkind, State.dataWriteDone, hcur, hc, Bool.false_eq_true, if_false, Option.map_some]

omit hcur in
/-- The staging tests do not read the out data (R122). -/
theorem stageRecord_completes {data : List Byte} {result : Result} (hv : s.recordVerdict record = some result) :
    s.stageRecord q.ring { record with outData := data }
      = s.completeRecord q.ring { record with outData := data } result none := by
  have hv' : s.recordVerdict { record with outData := data } = some result := hv
  simp only [State.stageRecord, hv']

end Outcomes

/-- Settles O38: the bytes read are those of the run, and each end stages, completes or goes on. -/
theorem dataRequestsEndTheirWay : Obligations.DataRequestsEndTheirWay := by
  refine ⟨fun q => bytesRead_eq, recordVerdict_eq, ?_⟩
  intro s q rest r record hq hwaits hbegun hd hr hcur
  subst hr
  have hcur' : ((unqueued s rest).ringUnit q.ring).current = some record := by
    rw [ringUnit_with_requests s rest, hcur]
  refine ⟨fun hkind hstage => ⟨fun w => ?_, fun w hlast hv => ?_, fun w result hlast hv => ?_⟩,
    fun c hkind hstage hc => ⟨fun w => ?_, fun w hlast => ?_⟩⟩
  · exact ⟨_, exec_errorAnswer hq hbegun w, finishRequest_completes hwaits hd rfl (takeOutcome_dataRead_error hcur' hkind)⟩
  · refine ⟨_, exec_lastAnswer hq hbegun hlast.ge w, ?_⟩
    have houtcome := takeOutcome_dataRead (s := unqueued s rest)
      (q := answeredWith q w) hcur' hkind
    exact finishRequest_stages (q := answeredWith q w) hwaits hd rfl houtcome hv
  · refine ⟨_, exec_lastAnswer hq hbegun hlast.ge w, ?_⟩
    have houtcome := (takeOutcome_dataRead (s := unqueued s rest)
      (q := answeredWith q w) hcur' hkind).trans
        (stageRecord_completes (s := unqueued s rest) hv)
    have hends := finishRequest_completes (q := answeredWith q w) hwaits hd rfl houtcome
    exact hends
  · have houtcome := takeOutcome_dataWrite_error (s := unqueued s rest) hcur' hkind hc
    rw [ringUnit_with_requests s rest] at houtcome
    have hends := finishRequest_goesOn hwaits hd rfl houtcome (by simp [hstage]) rfl rfl
    obtain ⟨hring, hserves, hwrite, hothers, hkeeps⟩ := hends
    refine ⟨_, exec_errorAnswer hq hbegun w, hring, hserves, fun p more hrest hp hpr => ?_, hothers, hkeeps⟩
    have hwords := hwrite p more hrest hp hpr
    cases hreply : c.reply <;> simpa [hreply] using hwords
  · have houtcome := takeOutcome_dataWrite (s := unqueued s rest) (q := answeredWith q w) hcur' hkind
    have hends := finishRequest_goesOn (q := answeredWith q w) hwaits hd rfl houtcome (by simp [hstage]) hcur' hc
    rw [ringUnit_with_requests s rest] at hends
    obtain ⟨hring, hserves, hwrite, hothers, hkeeps⟩ := hends
    refine ⟨_, exec_lastAnswer hq hbegun hlast.ge w, hserves, hwrite, ?_⟩
    have hrings (o : Ring) : (s.finishRequest (answeredWith q w) rest true).ringUnit o = s.ringUnit o := by
      by_cases ho : o = q.ring
      · rw [ho, hring]
      · exact hothers o ho
    have hu : (s.finishRequest (answeredWith q w) rest true).ringU = s.ringU := hrings .u
    have hn : (s.finishRequest (answeredWith q w) rest true).ringN = s.ringN := hrings .n
    rw [← hu, ← hn] at hkeeps
    exact hkeeps

end Sys2Proof.Machine.TheCycle
end

section
namespace Sys2Proof.Machine.Consistency
open TheCycle

/-! ### A ring, its requests and its exchange (R111, R113) -/

/-- What a ring's agreement with its requests reads of one of them. -/
structure Role where
  kind : RequestKind
  discarded : Bool
  count : Nat

/-- The role of a request. -/
def role (q : Request) : Role := { kind := q.kind, discarded := q.discarded, count := q.count }

/-- The roles of a ring's requests in a queue, oldest first. -/
def rolesOf (requests : List Request) (r : Ring) : List Role := (requests.filter (·.ring = r)).map role

/-- The context holds an exchange of the ring's that no RING_RESET has orphaned (R39, R64). -/
def holds (context : Option Exchange) (r : Ring) : Prop :=
  ∃ e i, context = some e ∧ e.source = .ring r i ∧ e.orphaned = false

/-- `State.RingConsistent` of the ring, the roles of its requests and whether the context holds its exchange: all that
it reads of the state. -/
structure Agrees (x : RingUnit) (roles : List Role) (held : Prop) : Prop where
  pending : x.pending ≤ x.length
  off : x.state = .off → x.head = 0 ∧ x.pending = 0 ∧ x.stage = .none
  head : x.state ≠ .off → 4 ≤ x.length ∧ x.length ≤ 256 ∧ x.head < x.length
  working : x.stage ≠ .none → x.state = .active
  reason : x.reason ≠ .none ↔ x.state = .halted
  current : x.current.isSome = x.stage.holdsRecord
  requests :
    (roles.all (!·.discarded) = true ∧ roles.map (·.kind) ∈ x.stage.requestKinds)
      ∨ (x.stage = .none ∧ roles.map (·.discarded) = [true])
  exchange : x.stage = .inExchange ↔ held
  outData : ∀ record, x.current = some record → x.stage.dataRead = true →
    record.outData.length = record.outLength.toNat
  reading : ∀ a ∈ roles, a.kind = .dataRead → a.discarded = false →
    ∃ record, x.current = some record ∧ a.count = record.outLength.toNat

theorem ringConsistent_iff (s : State) (r : Ring) :
    s.RingConsistent r ↔ Agrees (s.ringUnit r) (rolesOf s.requests r) (holds s.context r) := by
  have hall : (rolesOf s.requests r).all (!·.discarded) = (s.requestsOf r).all (!·.discarded) := by
    simp [rolesOf, State.requestsOf, role, Function.comp_def]
  have hkinds : (rolesOf s.requests r).map (·.kind) = (s.requestsOf r).map (·.kind) := by
    simp [rolesOf, State.requestsOf, role]
  have hdiscarded : (rolesOf s.requests r).map (·.discarded) = (s.requestsOf r).map (·.discarded) := by
    simp [rolesOf, State.requestsOf, role]
  have hreading (p : Role → Prop) : (∀ a ∈ rolesOf s.requests r, p a) ↔ ∀ q ∈ s.requestsOf r, p (role q) :=
    List.forall_mem_map
  constructor
  · rintro ⟨h1, h2, h3, h4, h5, h6, h7, h8, h9, h10⟩
    exact ⟨h1, h2, h3, h4, h5, h6, by rwa [hall, hkinds, hdiscarded], h8, h9, (hreading _).mpr h10⟩
  · rintro ⟨h1, h2, h3, h4, h5, h6, h7, h8, h9, h10⟩
    rw [hall, hkinds, hdiscarded] at h7
    exact ⟨h1, h2, h3, h4, h5, h6, h7, h8, h9, (hreading _).mp h10⟩

/-- A ring that works on its records: ACTIVE, with its head and its pending count within its length (R111). -/
structure Active (x : RingUnit) : Prop where
  state : x.state = .active
  reason : x.reason = .none
  length : 4 ≤ x.length ∧ x.length ≤ 256
  head : x.head < x.length
  pending : x.pending ≤ x.length

theorem Agrees.active {x : RingUnit} {roles : List Role} {held : Prop} (h : Agrees x roles held)
    (hstate : x.state = .active) : Active x := by
  obtain ⟨h4, h256, hhead⟩ := h.head (by simp [hstate])
  have hreason : ¬ x.reason ≠ .none := by rw [h.reason, hstate]; simp
  exact ⟨hstate, not_not.mp hreason, ⟨h4, h256⟩, hhead, h.pending⟩

/-- A record taken moves head and pending and keeps the ring at work (R119). -/
theorem Active.take {x : RingUnit} (h : Active x) (current : Option RingRecord) :
    Active { x with head := (x.head + 1) % x.length, pending := x.pending - 1, current := current } :=
  ⟨h.state, h.reason, h.length, Nat.mod_lt _ (by have := h.length; omega), by have := h.pending; simp only; omega⟩

/-- A ring at work agrees in any stage whose record, requests and exchange are as the stage says (R113, R121). -/
theorem Active.agrees {x : RingUnit} (h : Active x) {stage : Stage} {current : Option RingRecord} {roles : List Role}
    {held : Prop} (hcurrent : current.isSome = stage.holdsRecord)
    (hroles : roles.all (!·.discarded) = true ∧ roles.map (·.kind) ∈ stage.requestKinds)
    (hexchange : stage = .inExchange ↔ held)
    (houtData : ∀ record, current = some record → stage.dataRead = true →
      record.outData.length = record.outLength.toNat)
    (hreading : ∀ a ∈ roles, a.kind = .dataRead → a.discarded = false →
      ∃ record, current = some record ∧ a.count = record.outLength.toNat) :
    Agrees { x with stage := stage, current := current } roles held :=
  ⟨h.pending, by simp [h.state], fun _ => ⟨h.length.1, h.length.2, h.head⟩, fun _ => h.state,
    by simp [h.state, h.reason], hcurrent, .inl hroles, hexchange, houtData, hreading⟩

/-- A ring at work with its record completed and the write-back's requests in the queue (R125, R126). -/
theorem Active.writesBack {x : RingUnit} (h : Active x) (record : RingRecord) {roles : List Role} {held : Prop}
    (hroles : roles.all (!·.discarded) = true ∧ roles.map (·.kind) ∈ Stage.writingBack.requestKinds)
    (hheld : ¬ held) :
    Agrees { x with stage := .writingBack, current := some record } roles held := by
  refine h.agrees rfl hroles (by simp [hheld]) (by simp [Stage.dataRead]) fun a ha hkind => ?_
  have hmem : a.kind ∈ roles.map (·.kind) := List.mem_map_of_mem ha
  rcases List.mem_pair.mp hroles.2 with hkinds | hkinds <;> simp [hkinds, hkind] at hmem

/-- A ring at work whose record's out data stands, with no request of its own, offers it (R121, R122). -/
theorem Active.stages {x : RingUnit} (h : Active x) {record : RingRecord} {held : Prop}
    (hdata : record.outData.length = record.outLength.toNat) (hheld : ¬ held) :
    Agrees { x with stage := .staged, current := some record } [] held :=
  h.agrees rfl (by simp [Stage.requestKinds]) (by simp [hheld]) (by simp_all) (by simp)

/-- A ring without record that has nothing of its own but what a reset left begun (R113, R134). -/
theorem Agrees.idle {x : RingUnit} {roles : List Role} {held : Prop} (h : Agrees x roles held)
    (hstage : x.stage = .none)
    {roles' : List Role} (hroles : roles' = [] ∨ roles'.map (·.discarded) = [true]) : Agrees x roles' held := by
  refine ⟨h.pending, h.off, h.head, h.working, h.reason, h.current, ?_, h.exchange, h.outData, fun a ha _ hd => ?_⟩
  · rcases hroles with rfl | hroles
    · exact .inl (by simp [hstage, Stage.requestKinds])
    · exact .inr ⟨hstage, hroles⟩
  · rcases hroles with rfl | hroles
    · cases ha
    · have hmem : a.discarded ∈ roles'.map (·.discarded) := List.mem_map_of_mem ha
      simp [hroles, hd] at hmem

/-- A ring that is OFF, with nothing of its own but what a reset left begun (R111, R133, R135). -/
theorem agrees_off (base : Word) (length : Nat) {roles : List Role} {held : Prop}
    (hroles : roles = [] ∨ roles.map (·.discarded) = [true]) (hheld : ¬ held) :
    Agrees { RingUnit.reset with base := base, length := length } roles held :=
  Agrees.idle (roles := []) ⟨Nat.zero_le _, fun _ => ⟨rfl, rfl, rfl⟩, fun h => absurd rfl h, fun h => absurd rfl h,
    by simp [RingUnit.reset], rfl, .inl (by simp [RingUnit.reset, Stage.requestKinds]), by simp [RingUnit.reset, hheld],
    by simp [RingUnit.reset], by simp⟩ rfl hroles

/-- A halted ring has no record and no request (R130). -/
theorem Active.halts {x : RingUnit} (h : Active x) {reason : HaltReason} {held : Prop} (hreason : reason ≠ .none)
    (hheld : ¬ held) :
    Agrees { x with state := .halted, reason := reason, stage := .none, current := none } [] held :=
  ⟨h.pending, by simp, fun _ => ⟨h.length.1, h.length.2, h.head⟩, by simp, by simpa using hreason, rfl,
    .inl (by simp [Stage.requestKinds]), by simp [hheld], by simp, by simp⟩

/-- What the oldest request of a ring says of its stage and of the requests behind it (R113). -/
theorem Agrees.oldest {x : RingUnit} {a : Role} {roles : List Role} {held : Prop} (h : Agrees x (a :: roles) held)
    (hd : a.discarded = false) :
    (a.kind = .recordRead ∧ x.stage = .fetching ∧ roles = [])
      ∨ (a.kind = .dataRead ∧ x.stage = .loading ∧ roles = [])
      ∨ (a.kind = .dataWrite ∧ x.stage = .writingBack ∧ roles.all (!·.discarded) = true
        ∧ roles.map (·.kind) = [.statusWrite])
      ∨ (a.kind = .statusWrite ∧ x.stage = .writingBack ∧ roles = []) := by
  rcases h.requests with ⟨hall, hkinds⟩ | ⟨-, hdiscarded⟩
  · have hall' : roles.all (!·.discarded) = true := by simp_all
    cases hs : x.stage <;> rw [hs] at hkinds <;> simp [Stage.requestKinds] at hkinds <;> simp_all
  · simp [hd] at hdiscarded

/-- A discarded request of a ring is all it has in the queue, and no record is under way (R134). -/
theorem Agrees.discarded {x : RingUnit} {a : Role} {roles : List Role} {held : Prop} (h : Agrees x (a :: roles) held)
    (hd : a.discarded = true) : x.stage = .none ∧ roles = [] := by
  rcases h.requests with ⟨hall, -⟩ | ⟨hstage, hdiscarded⟩
  · simp [hd] at hall
  · exact ⟨hstage, by simpa [hd] using hdiscarded⟩

theorem Agrees.length_le {x : RingUnit} {roles : List Role} {held : Prop} (h : Agrees x roles held) :
    roles.length ≤ 2 := by
  rcases h.requests with ⟨-, hkinds⟩ | ⟨-, hdiscarded⟩
  · rw [← List.length_map (f := (·.kind))]
    cases hs : x.stage <;> rw [hs] at hkinds <;> simp only [Stage.requestKinds, List.mem_cons, List.not_mem_nil,
      or_false] at hkinds
    case writingBack => rcases hkinds with hkinds | hkinds <;> simp [hkinds]
    all_goals simp [hkinds]
  · have := congrArg List.length hdiscarded
    simp at this
    omega

end Sys2Proof.Machine.Consistency
end

section
namespace Sys2Proof.Machine.Consistency
open TheCycle

/-! ### The request queue (R136, R138, R144, R145) -/

/-- The oldest request of a queue is begun (R138). -/
def served (l : List Request) : Prop := ∀ q ∈ l.head?, q.begun = true

/-- No request of a queue is one that a SOFT_RESET left begun (R145). -/
def unsoled (l : List Request) : Prop := ∀ q ∈ l, q.sole = false

/-- A queue in which no request but the oldest is begun: what `State.QueueServed` says of the requests, `sole` and the
begin of the oldest apart. -/
structure Ordered (l : List Request) : Prop where
  behind : ∀ p ∈ l.tail, p.begun = false
  discarded : ∀ q ∈ l, q.discarded = true → q.begun = true
  words : ∀ q ∈ l, q.words.length = q.answered

theorem zipIdx_map_eq_zero (l : List Request) (n : Nat) :
    (l.zipIdx (n + 1)).map (fun p => p.2 == 0) = List.replicate l.length false := by
  refine List.eq_replicate_iff.mpr ⟨by simp, fun b hb => ?_⟩
  obtain ⟨⟨q, k⟩, hmem, rfl⟩ := List.mem_map.mp hb
  have := List.le_snd_of_mem_zipIdx hmem
  simp only [beq_eq_false_iff_ne]
  omega

/-- The oldest request and no other is begun (R138). -/
theorem begun_iff (l : List Request) :
    l.map (·.begun) = l.zipIdx.map (fun p => p.2 == 0) ↔ served l ∧ ∀ p ∈ l.tail, p.begun = false := by
  cases l with
  | nil => simp [served]
  | cons q rest =>
    rw [List.zipIdx_cons, List.map_cons, List.map_cons, zipIdx_map_eq_zero, List.cons_eq_cons,
      List.eq_replicate_iff]
    simp [served]

theorem rolesOf_append (l m : List Request) (r : Ring) : rolesOf (l ++ m) r = rolesOf l r ++ rolesOf m r := by
  simp [rolesOf]

theorem rolesOf_cons (q : Request) (l : List Request) (r : Ring) :
    rolesOf (q :: l) r = if q.ring = r then role q :: rolesOf l r else rolesOf l r := by
  by_cases h : q.ring = r <;> simp [rolesOf, h]

theorem rolesOf_single (q : Request) (r : Ring) : rolesOf [q] r = if r = q.ring then [role q] else [] := by
  rw [rolesOf_cons]
  simp [rolesOf, eq_comm]

/-- A queue after a ring has issued requests: each ring has its own behind those it had (R136). -/
structure Joined (before after : List Request) (r : Ring) (new : List Role) : Prop where
  roles : ∀ o, rolesOf after o = rolesOf before o ++ if o = r then new else []
  ordered : Ordered before → Ordered after
  unsoled : unsoled before → unsoled after

theorem Joined.refl (l : List Request) (r : Ring) : Joined l l r [] := ⟨by simp, id, id⟩

theorem Joined.trans {l m n : List Request} {r : Ring} {a b : List Role} (h : Joined l m r a) (h' : Joined m n r b) :
    Joined l n r (a ++ b) := by
  refine ⟨fun o => ?_, h'.ordered ∘ h.ordered, h'.unsoled ∘ h.unsoled⟩
  rw [h'.roles, h.roles]
  by_cases ho : o = r <;> simp [ho]

/-- A request joins a queue as its ring issues it: neither begun nor discarded, nothing of it answered (R136). -/
structure Fresh (q : Request) : Prop where
  begun : q.begun = false
  discarded : q.discarded = false
  sole : q.sole = false
  words : q.words.length = q.answered

theorem fresh_fresh (kind : RequestKind) (r : Ring) (i : Byte) (a : Word) (n : Nat) (d : List Byte) :
    Fresh (.fresh kind r i a n d) := ⟨rfl, rfl, rfl, rfl⟩

theorem joined_append (l : List Request) {q : Request} (hq : Fresh q) : Joined l (l ++ [q]) q.ring [role q] := by
  refine ⟨fun o => ?_, fun h => ⟨?_, ?_, ?_⟩, fun h p hp => ?_⟩
  · rw [rolesOf_append, rolesOf_single]
  · intro p hp
    cases l with
    | nil => cases hp
    | cons first rest =>
      rcases List.mem_append.mp hp with hp | hp
      · exact h.behind p hp
      · exact List.mem_singleton.mp hp ▸ hq.begun
  · intro p hp hd
    rcases List.mem_append.mp hp with hp | hp
    · exact h.discarded p hp hd
    · rw [List.mem_singleton.mp hp, hq.discarded] at hd
      cases hd
  · intro p hp
    rcases List.mem_append.mp hp with hp | hp
    · exact h.words p hp
    · exact List.mem_singleton.mp hp ▸ hq.words
  · rcases List.mem_append.mp hp with hp | hp
    · exact h p hp
    · exact List.mem_singleton.mp hp ▸ hq.sole

/-- Serving a queue leaves it, or begins its oldest request with data formed (R126, R138). -/
theorem serve_cases (s : State) :
    (s.serve.requests = s.requests ∧ served s.requests)
      ∨ ∃ q rest data, s.requests = q :: rest
        ∧ s.serve.requests = { q with begun := true, data := data } :: rest := by
  cases hq : s.requests with
  | nil => exact .inl ⟨by simp [State.serve, hq], by simp [served]⟩
  | cons q rest =>
    cases hb : q.begun with
    | true => exact .inl ⟨by rw [State.serve_begun hq hb, hq], by simpa [served] using hb⟩
    | false => exact .inr ⟨q, rest, _, rfl, by simp only [State.serve, hq, hb]; rfl⟩

theorem serve_served (s : State) : served s.serve.requests := by
  rcases serve_cases s with ⟨h, hserved⟩ | ⟨q, rest, data, -, h⟩ <;> rw [h]
  · exact hserved
  · simp [served]

theorem serve_joined (s : State) (r : Ring) : Joined s.requests s.serve.requests r [] := by
  rcases serve_cases s with ⟨h, -⟩ | ⟨q, rest, data, hq, h⟩
  · rw [h]
    exact .refl ..
  · rw [h, hq]
    refine ⟨fun o => by simp [rolesOf_cons, role], fun hord => ⟨hord.behind, ?_, ?_⟩, ?_⟩
    · have := hord.discarded
      simp_all
    · have := hord.words
      simp_all
    · simp [Consistency.unsoled]

theorem issue_served (s : State) (q : Request) : served (s.issue q).requests := serve_served _

theorem issue_joined {s : State} {q : Request} {r : Ring} {l : List Request} (hs : s.requests = l) (hq : Fresh q)
    (hr : q.ring = r) : Joined l (s.issue q).requests r [role q] := by
  subst hs hr
  exact (joined_append s.requests hq).trans (serve_joined { s with requests := s.requests ++ [q] } q.ring)

/-- A reply with a payload adds its DATA_WRITE (R126). -/
theorem issueReply_joined {s : State} {l : List Request} (hs : s.requests = l) (r : Ring) (record : RingRecord)
    (reply : Option Reply) :
    ∃ new, Joined l (s.issueReply r record reply).requests r new
      ∧ new.all (!·.discarded) = true ∧ (new.map (·.kind) = [] ∨ new.map (·.kind) = [.dataWrite]) := by
  subst hs
  unfold State.issueReply
  split
  · split
    · exact ⟨_, .refl .., rfl, .inl rfl⟩
    · exact ⟨_, issue_joined rfl (fresh_fresh ..) rfl, rfl, .inr rfl⟩
  · exact ⟨_, .refl .., rfl, .inl rfl⟩

/-- What a completing record's write-back adds to the queue (R125, R126). -/
theorem completeRecord_joined (s : State) (r : Ring) (record : RingRecord) (result : Result) (reply : Option Reply) :
    ∃ new, Joined s.requests (s.completeRecord r record result reply).requests r new
      ∧ new.all (!·.discarded) = true ∧ new.map (·.kind) ∈ Stage.writingBack.requestKinds := by
  obtain ⟨new, hjoined, hall, hkinds⟩ := issueReply_joined (l := s.requests) (s := s.setRing r { s.ringUnit r with
    stage := .writingBack
    current := some { record with completion := some { result := result, cycle := s.cycle.number, reply := reply } } })
    (by simp) r record reply
  refine ⟨_, hjoined.trans (issue_joined (q := s.statusWriteRequest r record) rfl ⟨rfl, rfl, rfl, rfl⟩ rfl), ?_, ?_⟩
  · rw [List.all_append, hall]
    rfl
  · rcases hkinds with hkinds | hkinds <;>
      simp [hkinds, role, State.statusWriteRequest, Stage.requestKinds]

theorem completeRecord_served (s : State) (r : Ring) (record : RingRecord) (result : Result) (reply : Option Reply) :
    served (s.completeRecord r record result reply).requests := issue_served _ _

end Sys2Proof.Machine.Consistency
end

section
namespace Sys2Proof.Machine.Consistency
open TheCycle

/-! ### Rings, queue and context together -/

/-- `State.RingsConsistent` of the rings, the requests and the context, but for the begin of the oldest request. -/
structure Agreement (rings : Ring → RingUnit) (requests : List Request) (context : Option Exchange) : Prop where
  ring : ∀ r, Agrees (rings r) (rolesOf requests r) (holds context r)
  ordered : Ordered requests
  sole : ∀ q ∈ requests, q.sole = true → requests = [q] ∧ q.discarded = true ∧ ∀ r, (rings r).stage = .none

theorem ringsConsistent_iff (s : State) :
    s.RingsConsistent ↔ Agreement s.ringUnit s.requests s.context ∧ served s.requests := by
  constructor
  · rintro ⟨hu, hn, hbegun, hdiscarded, hwords, hsole⟩
    obtain ⟨hserved, hbehind⟩ := (begun_iff _).mp hbegun
    refine ⟨⟨fun r => ?_, ⟨hbehind, hdiscarded, hwords⟩, fun q hq hs => ?_⟩, hserved⟩
    · cases r
      · exact (ringConsistent_iff s .u).mp hu
      · exact (ringConsistent_iff s .n).mp hn
    · obtain ⟨hone, hd, hstageU, hstageN⟩ := hsole q hq hs
      exact ⟨hone, hd, fun r => by cases r <;> assumption⟩
  · rintro ⟨⟨hring, ⟨hbehind, hdiscarded, hwords⟩, hsole⟩, hserved⟩
    refine ⟨(ringConsistent_iff s .u).mpr (hring .u), (ringConsistent_iff s .n).mpr (hring .n),
      (begun_iff _).mpr ⟨hserved, hbehind⟩, hdiscarded, hwords, fun q hq hs => ?_⟩
    obtain ⟨hone, hd, hstage⟩ := hsole q hq hs
    exact ⟨hone, hd, hstage .u, hstage .n⟩

/-- While a ring is at work no request is one that a SOFT_RESET left begun (R145). -/
theorem Agreement.unsoled {rings : Ring → RingUnit} {requests : List Request} {context : Option Exchange}
    (h : Agreement rings requests context) {r : Ring} (hstage : (rings r).stage ≠ .none) : unsoled requests := by
  intro q hq
  by_contra hs
  obtain ⟨-, -, hnone⟩ := h.sole q hq (by simpa using hs)
  exact hstage (hnone r)

/-- Serving the queue keeps the agreement (R138). -/
theorem Agreement.serve {s : State} {context : Option Exchange} (h : Agreement s.ringUnit s.requests context) :
    Agreement s.serve.ringUnit s.serve.requests context := by
  have hjoined := serve_joined s .u
  refine ⟨fun r => ?_, hjoined.ordered h.ordered, fun q hq hs => ?_⟩
  · rw [serve_ringUnit, hjoined.roles]
    simpa using h.ring r
  · have hrings : ∀ r, s.serve.ringUnit r = s.ringUnit r := serve_ringUnit s
    simp only [hrings]
    rcases serve_cases s with ⟨heq, -⟩ | ⟨p, rest, data, hp, heq⟩
    · rw [heq] at hq ⊢
      exact h.sole q hq hs
    · rw [heq] at hq ⊢
      rw [hp] at h
      rcases List.mem_cons.mp hq with rfl | hq
      · obtain ⟨hone, hd, hstage⟩ := h.sole p (by simp) hs
        exact ⟨by simpa using hone, hd, hstage⟩
      · obtain ⟨hone, -, -⟩ := h.sole q (by simp [hq]) hs
        obtain ⟨-, rfl⟩ := List.cons_eq_cons.mp hone
        cases hq

/-- The agreement reads no more of the context than whose exchange it holds. -/
theorem Agreement.context {rings : Ring → RingUnit} {requests : List Request} {context other : Option Exchange}
    (h : Agreement rings requests context) (hholds : ∀ r, holds other r ↔ holds context r) :
    Agreement rings requests other :=
  ⟨fun r => by rw [hholds]; exact h.ring r, h.ordered, h.sole⟩

/-- One ring moves with its stage and the requests as they were. -/
theorem Agreement.retouch {s t : State} {r : Ring} {y : RingUnit} {context : Option Exchange}
    (h : Agreement s.ringUnit s.requests context) (hrings : ∀ o, t.ringUnit o = if o = r then y else s.ringUnit o)
    (hrequests : t.requests = s.requests) (hstage : y.stage = (s.ringUnit r).stage)
    (hy : Agrees y (rolesOf s.requests r) (holds context r)) : Agreement t.ringUnit t.requests context := by
  rw [hrequests]
  refine ⟨fun o => ?_, h.ordered, fun q hq hs => ?_⟩
  · rw [hrings]
    by_cases ho : o = r
    · rw [if_pos ho, ho]
      exact hy
    · rw [if_neg ho]
      exact h.ring o
  · obtain ⟨hone, hd, hnone⟩ := h.sole q hq hs
    refine ⟨hone, hd, fun o => ?_⟩
    rw [hrings]
    by_cases ho : o = r
    · rw [if_pos ho, hstage, hnone]
    · rw [if_neg ho, hnone]

/-! ### A ring between its requests -/

/-- A ring at work has nothing of its own in the queue, and all else agrees: the moment at which its record's next
stage is decided. -/
structure Ready (s : State) (r : Ring) (context : Option Exchange) : Prop where
  active : Active (s.ringUnit r)
  roles : rolesOf s.requests r = []
  others : ∀ o, o ≠ r → Agrees (s.ringUnit o) (rolesOf s.requests o) (holds context o)
  ordered : Ordered s.requests
  unsoled : unsoled s.requests

/-- A ring with a record under way and nothing of its own in the queue is between its requests. -/
theorem Agreement.ready {s : State} {r : Ring} {context : Option Exchange}
    (h : Agreement s.ringUnit s.requests context) (hstage : (s.ringUnit r).stage ≠ .none)
    (hroles : rolesOf s.requests r = []) : Ready s r context :=
  ⟨(h.ring r).active ((h.ring r).working hstage), hroles, fun o _ => h.ring o, h.ordered, h.unsoled hstage⟩

theorem Ready.context {s : State} {r : Ring} {context other : Option Exchange} (h : Ready s r context)
    (hholds : ∀ o, o ≠ r → (holds other o ↔ holds context o)) : Ready s r other :=
  ⟨h.active, h.roles, fun o ho => by rw [hholds o ho]; exact h.others o ho, h.ordered, h.unsoled⟩

theorem Ready.setRing {s : State} {r : Ring} {context : Option Exchange} (h : Ready s r context) {x : RingUnit}
    (hx : Active x) : Ready (s.setRing r x) r context := by
  refine ⟨by simpa using hx, by simpa using h.roles, fun o ho => ?_, by simpa using h.ordered,
    by simpa using h.unsoled⟩
  simpa [State.ringUnit_setRing, ho] using h.others o ho

/-- The ring moves on and its new requests join the queue. -/
theorem Ready.joins {s t : State} {r : Ring} {context : Option Exchange} {y : RingUnit} {new : List Role}
    (h : Ready s r context) (hrings : ∀ o, t.ringUnit o = if o = r then y else s.ringUnit o)
    (hjoined : Joined s.requests t.requests r new) (hy : Agrees y new (holds context r)) :
    Agreement t.ringUnit t.requests context := by
  have hunsoled := hjoined.unsoled h.unsoled
  refine ⟨fun o => ?_, hjoined.ordered h.ordered, fun q hq hs => by simp [hunsoled q hq] at hs⟩
  rw [hrings, hjoined.roles]
  by_cases ho : o = r
  · subst ho
    simpa [h.roles] using hy
  · simpa [ho] using h.others o ho

/-- The ring moves on with no request. -/
theorem Ready.moves {s t : State} {r : Ring} {context : Option Exchange} {y : RingUnit} (h : Ready s r context)
    (hrings : ∀ o, t.ringUnit o = if o = r then y else s.ringUnit o) (hrequests : t.requests = s.requests)
    (hy : Agrees y [] (holds context r)) : Agreement t.ringUnit t.requests context :=
  h.joins hrings (hrequests ▸ Joined.refl ..) hy

/-- The record completes (R125, R126). -/
theorem Ready.completes {s : State} {r : Ring} {context : Option Exchange} (h : Ready s r context)
    (hheld : ¬ holds context r) (record : RingRecord) (result : Result) (reply : Option Reply) :
    Agreement (s.completeRecord r record result reply).ringUnit (s.completeRecord r record result reply).requests
      context := by
  obtain ⟨new, hjoined, hnew⟩ := completeRecord_joined s r record result reply
  exact h.joins (fun o => completeRecord_ringUnit ..) hjoined (h.active.writesBack _ hnew hheld)

/-- The record, its out data read, goes through the staging tests (R122). -/
theorem Ready.stages {s : State} {r : Ring} {context : Option Exchange} (h : Ready s r context)
    (hheld : ¬ holds context r) {record : RingRecord} (hdata : record.outData.length = record.outLength.toNat) :
    Agreement (s.stageRecord r record).ringUnit (s.stageRecord r record).requests context := by
  cases hv : s.recordVerdict record with
  | some result =>
    have heq : s.stageRecord r record = s.completeRecord r record result none := by simp only [State.stageRecord, hv]
    rw [heq]
    exact h.completes hheld ..
  | none =>
    obtain ⟨hrings, hrequests, -⟩ := stageRecord_stages hv (r := r)
    exact h.moves hrings hrequests (h.active.stages hdata hheld)

/-- The ring halts (R130). -/
theorem haltRing_ringUnit (s : State) (r o : Ring) (reason : HaltReason) (i : Byte) (failed : Option RingRecord) :
    (s.haltRing r reason i failed).ringUnit o =
      if o = r then { s.ringUnit r with state := .halted, reason := reason, stage := .none, current := none }
      else s.ringUnit o := by
  rw [← State.ringUnit_setRing]
  cases o <;> simp [State.haltRing, State.ringUnit]

theorem Ready.halts {s : State} {r : Ring} {context : Option Exchange} (h : Ready s r context)
    (hheld : ¬ holds context r) {reason : HaltReason} (hreason : reason ≠ .none) (i : Byte)
    (failed : Option RingRecord) :
    Agreement (s.haltRing r reason i failed).ringUnit (s.haltRing r reason i failed).requests context :=
  h.moves (fun o => haltRing_ringUnit ..) (by simp) (h.active.halts hreason hheld)

/-- The record is taken (R119, R120, R121). -/
theorem Ready.takes {s : State} {r : Ring} {context : Option Exchange} (h : Ready s r context)
    (hheld : ¬ holds context r) (w0 w1 w2 w3 : Word) :
    Agreement (s.takeRecord r w0 w1 w2 w3).ringUnit (s.takeRecord r w0 w1 w2 w3).requests context := by
  obtain ⟨record, hrecord⟩ : ∃ record, record = recordOfWords (BitVec.ofNat 8 (s.ringUnit r).head) w0 w1 w2 w3 :=
    ⟨_, rfl⟩
  have hready : Ready (afterTaking s r record) r context := h.setRing (h.active.take _)
  have hactive := hready.active
  by_cases hi : record.invalid = true
  · rw [takeRecord_completes hrecord (.inl ⟨hi, rfl⟩)]
    exact hready.completes hheld ..
  · rw [Bool.not_eq_true] at hi
    by_cases hlen : record.outLength = 0
    · rw [takeRecord_stages hrecord hi hlen]
      exact hready.stages hheld (by rw [hlen, hrecord]; rfl)
    · rw [takeRecord_loads hrecord hi hlen]
      refine hready.joins (fun o => by rw [issue_ringUnit, State.ringUnit_setRing]) ?_
        (hactive.agrees (stage := .loading) (current := ((afterTaking s r record).ringUnit r).current)
          (roles := [role (.fresh .dataRead r record.index record.outAddress record.outLength.toNat [])])
          ?_ ?_ (by simp [hheld]) ?_ ?_)
      · exact issue_joined (by simp) (fresh_fresh ..) rfl
      · simp [Stage.holdsRecord]
      · simp [role, Request.fresh, Stage.requestKinds]
      · simp [Stage.dataRead]
      · simp [role, Request.fresh]

/-- A ring that may fetch issues its RECORD_READ (R118). -/
theorem Agreement.tryFetch {s : State} {context : Option Exchange} (h : Agreement s.ringUnit s.requests context)
    (r : Ring) : Agreement (s.tryFetch r).ringUnit (s.tryFetch r).requests context := by
  by_cases hmay : s.mayFetch r = true
  · obtain ⟨hactive, -, hstage, hnone⟩ := (mayFetch_iff s r).mp hmay
    have hring := h.ring r
    have hcurrent : (s.ringUnit r).current = none := by
      simpa [hstage, Stage.holdsRecord] using hring.current
    have hheld : ¬ holds context r := by
      rw [← hring.exchange]
      simp [hstage]
    have hready : Ready s r context := ⟨hring.active hactive, by
        simpa [rolesOf] using fun q hq => (hnone q hq).1, fun o _ => h.ring o, h.ordered, fun q hq => (hnone q hq).2⟩
    rw [tryFetch_fetches hmay]
    refine hready.joins (fun o => by rw [issue_ringUnit, State.ringUnit_setRing]) ?_
      (hready.active.agrees (stage := .fetching) (current := (s.ringUnit r).current)
        (roles := [role (s.fetchRequest r)]) ?_ ?_ (by simp [hheld]) ?_ ?_)
    · exact issue_joined (by simp) ⟨rfl, rfl, rfl, rfl⟩ rfl
    · simp [hcurrent, Stage.holdsRecord]
    · simp [role, State.fetchRequest, Stage.requestKinds]
    · simp [Stage.dataRead]
    · simp [role, State.fetchRequest]
  · rwa [State.tryFetch_held (by simpa using hmay)]

theorem tryFetch_served {s : State} (h : served s.requests) (r : Ring) : served (s.tryFetch r).requests := by
  unfold State.tryFetch
  split
  · exact issue_served _ _
  · exact h

end Sys2Proof.Machine.Consistency
end

section
namespace Sys2Proof.Machine.Consistency
open TheCycle

/-! ### The end of a request (R119, R121, R127, R128, R138) -/

theorem Ordered.rest {q : Request} {rest : List Request} (h : Ordered (q :: rest)) : Ordered rest :=
  ⟨fun p hp => h.behind p (List.mem_of_mem_tail hp), fun p hp => h.discarded p (List.mem_cons_of_mem q hp),
    fun p hp => h.words p (List.mem_cons_of_mem q hp)⟩

@[simp] theorem post_ringUnit (s : State) (e : Entry) (o : Ring) : (s.post e).ringUnit o = s.ringUnit o := by
  cases o <;> simp [State.ringUnit]

section Outcomes
variable {s : State} {q : Request} {ok : Bool} {context : Option Exchange} (h : Ready s q.ring context)
  (hheld : ¬ holds context q.ring)
include h hheld

theorem Ready.recordReadDone :
    Agreement (s.recordReadDone q ok).ringUnit (s.recordReadDone q ok).requests context := by
  unfold State.recordReadDone
  split
  · exact h.halts hheld (by simp) ..
  · split
    · exact h.halts hheld (by simp) ..
    · exact h.takes hheld ..

variable {record : RingRecord} (hcurrent : (s.ringUnit q.ring).current = some record)
include hcurrent

theorem Ready.dataReadDone (hbytes : ok = true → q.bytesRead.length = record.outLength.toNat) :
    Agreement (s.dataReadDone q ok).ringUnit (s.dataReadDone q ok).requests context := by
  simp only [State.dataReadDone, hcurrent]
  split
  · rename_i hok
    exact h.stages hheld (hbytes hok)
  · exact h.completes hheld ..

theorem Ready.statusWriteDone :
    Agreement (s.statusWriteDone q ok).ringUnit (s.statusWriteDone q ok).requests context := by
  simp only [State.statusWriteDone, hcurrent]
  split
  · have hreturned : Agrees { s.ringUnit q.ring with stage := .none, current := none } [] (holds context q.ring) :=
      h.active.agrees rfl (by simp [Stage.requestKinds]) (by simp [hheld]) (by simp) (by simp)
    split
    · exact h.moves (fun o => State.ringUnit_setRing ..) (by simp) hreturned
    · split
      · exact h.moves (fun o => by rw [post_ringUnit, State.ringUnit_setRing]) (by simp) hreturned
      · exact h.moves (fun o => State.ringUnit_setRing ..) (by simp) hreturned
  · exact h.halts hheld (by simp) ..

end Outcomes

section Leaves
variable {s : State} {q : Request} {rest : List Request} {context : Option Exchange}
  (h : Agreement s.ringUnit (q :: rest) context)
include h

/-- Behind another request there is none that a SOFT_RESET left begun (R145). -/
theorem Agreement.unsoled_rest : Consistency.unsoled rest := by
  intro p hp
  by_contra hs
  obtain ⟨hone, -, -⟩ := h.sole p (List.mem_cons_of_mem q hp) (by simpa using hs)
  obtain ⟨-, rfl⟩ := List.cons_eq_cons.mp hone
  cases hp

theorem Agreement.oldestRing : Agrees (s.ringUnit q.ring) (role q :: rolesOf rest q.ring) (holds context q.ring) := by
  have hring := h.ring q.ring
  rwa [rolesOf_cons, if_pos rfl] at hring

/-- A request leaves the queue, and its ring goes on with those it has behind it. -/
theorem Agreement.leaves {t : State} {y : RingUnit}
    (hrings : ∀ o, t.ringUnit o = if o = q.ring then y else s.ringUnit o) (hrequests : t.requests = rest)
    (hy : Agrees y (rolesOf rest q.ring) (holds context q.ring)) : Agreement t.ringUnit t.requests context := by
  rw [hrequests]
  refine ⟨fun o => ?_, h.ordered.rest, fun p hp hs => by simp [h.unsoled_rest p hp] at hs⟩
  rw [hrings]
  by_cases ho : o = q.ring
  · rw [if_pos ho, ho]
    exact hy
  · have hring := h.ring o
    rw [rolesOf_cons, if_neg (Ne.symm ho)] at hring
    rwa [if_neg ho]

/-- A ring whose last request leaves the queue is between its requests. -/
theorem Agreement.leavesReady (hstage : (s.ringUnit q.ring).stage ≠ .none) (hroles : rolesOf rest q.ring = []) :
    Ready (unqueued s rest) q.ring context := by
  have hring := h.oldestRing
  refine ⟨by simpa using hring.active (hring.working hstage), hroles, fun o ho => ?_, h.ordered.rest, h.unsoled_rest⟩
  have hother := h.ring o
  rw [rolesOf_cons, if_neg (Ne.symm ho)] at hother
  simpa using hother

/-- A discarded request leaves the queue with no outcome (R144). -/
theorem Agreement.leavesDiscarded (hd : q.discarded = true) :
    Agreement (unqueued s rest).ringUnit (unqueued s rest).requests context := by
  obtain ⟨hstage, hroles⟩ := h.oldestRing.discarded hd
  refine h.leaves (y := s.ringUnit q.ring) (fun o => ?_) rfl (h.oldestRing.idle hstage (.inl hroles))
  by_cases ho : o = q.ring <;> simp [ho]

/-- The current record of a ring whose oldest request is no RECORD_READ (R113). -/
theorem Agreement.oldestRecord (hstage : (s.ringUnit q.ring).stage.holdsRecord = true) :
    ∃ record, (s.ringUnit q.ring).current = some record :=
  Option.isSome_iff_exists.mp (h.oldestRing.current.trans hstage)

/-- The end of a DATA_WRITE leaves its record to the STATUS_WRITE behind it (R126, R127). -/
theorem Agreement.dataWriteDone {ok : Bool} (hstage : (s.ringUnit q.ring).stage = .writingBack)
    (hroles : (rolesOf rest q.ring).all (!·.discarded) = true ∧ (rolesOf rest q.ring).map (·.kind) = [.statusWrite]) :
    Agreement ((unqueued s rest).dataWriteDone q ok).ringUnit ((unqueued s rest).dataWriteDone q ok).requests
      context := by
  have hring := h.oldestRing
  obtain ⟨record, hcurrent⟩ := h.oldestRecord (by simp [hstage, Stage.holdsRecord])
  have hwrites (record : RingRecord) := (hring.active (hring.working (by simp [hstage]))).writesBack record
    ⟨hroles.1, by simp [hroles.2, Stage.requestKinds]⟩ (hring.exchange.not.mp (by simp [hstage]))
  rw [← hstage] at hwrites
  simp only [State.dataWriteDone, ringUnit_with_requests, hcurrent]
  split
  · have hsame := hwrites record
    rw [← hcurrent] at hsame
    exact h.leaves (fun o => by by_cases ho : o = q.ring <;> simp [ho]) rfl hsame
  · have hmoved (y : RingUnit) (o : Ring) : ((unqueued s rest).setRing q.ring y).ringUnit o =
        if o = q.ring then y else s.ringUnit o := by
      rw [State.ringUnit_setRing, ringUnit_with_requests]
    exact h.leaves (hmoved _) (by simp) (hwrites _)

/-- The outcome of a request keeps the agreement: a DATA_READ that ends well has read as many bytes as it counts. -/
theorem Agreement.takeOutcome {ok : Bool} (hd : q.discarded = false)
    (hbytes : ok = true → q.kind = .dataRead → q.bytesRead.length = q.count) :
    Agreement ((unqueued s rest).takeOutcome q ok).ringUnit ((unqueued s rest).takeOutcome q ok).requests context := by
  have hring := h.oldestRing
  have hrecord {record : RingRecord} (hcurrent : (s.ringUnit q.ring).current = some record) :
      ((unqueued s rest).ringUnit q.ring).current = some record := by rwa [ringUnit_with_requests]
  have hunheld (hstage : (s.ringUnit q.ring).stage ≠ .inExchange) := hring.exchange.not.mp hstage
  rcases hring.oldest hd with ⟨hkind, hstage, hroles⟩ | ⟨hkind, hstage, hroles⟩ | ⟨hkind, hstage, hroles⟩
    | ⟨hkind, hstage, hroles⟩ <;> simp only [role] at hkind <;> simp only [State.takeOutcome, hkind]
  · exact (h.leavesReady (by simp [hstage]) hroles).recordReadDone (hunheld (by simp [hstage]))
  · obtain ⟨record, hcurrent, hcount⟩ := hring.reading (role q) (List.mem_cons_self ..) hkind hd
    exact (h.leavesReady (by simp [hstage]) hroles).dataReadDone (hunheld (by simp [hstage])) (hrecord hcurrent)
      fun hok => (hbytes hok hkind).trans hcount
  · exact h.dataWriteDone hstage hroles
  · obtain ⟨record, hcurrent⟩ := h.oldestRecord (by simp [hstage, Stage.holdsRecord])
    exact (h.leavesReady (by simp [hstage]) hroles).statusWriteDone (hunheld (by simp [hstage])) (hrecord hcurrent)

end Leaves

/-- The fetches after a discarded request keep the agreement (R118, R144, R145). -/
theorem Agreement.fetchAfter {s : State} {context : Option Exchange} (h : Agreement s.ringUnit s.requests context)
    (q : Request) : Agreement (s.fetchAfter q).ringUnit (s.fetchAfter q).requests context := by
  rcases s.fetchAfter_cases q with ⟨-, heq⟩ | ⟨-, r, heq⟩ <;> rw [heq]
  · exact h.tryFetch _
  · have hindex : State.ringUnit { s with orderIndex := s.orderIndex + 1 } = s.ringUnit := by
      funext o
      cases o <;> rfl
    exact (Agreement.tryFetch (s := { s with orderIndex := s.orderIndex + 1 }) (by rwa [hindex]) r).tryFetch _

/-- The end of a request keeps the rings, the queue and the context in agreement (R138). -/
theorem finishRequest_consistent {s : State} {q : Request} {rest : List Request} {ok : Bool} (h : s.RingsConsistent)
    (hq : s.requests = q :: rest) (hbytes : ok = true → q.kind = .dataRead → q.bytesRead.length = q.count) :
    (s.finishRequest q rest ok).RingsConsistent := by
  obtain ⟨hagree, -⟩ := (ringsConsistent_iff s).mp h
  rw [hq] at hagree
  refine (ringsConsistent_iff _).mpr ⟨?_, serve_served _⟩
  have hcontext : (s.finishRequest q rest ok).context = s.context := by simp
  rw [hcontext]
  refine Agreement.serve ?_
  cases hd : q.discarded with
  | true => exact (hagree.leavesDiscarded hd).fetchAfter q
  | false => exact (hagree.takeOutcome hd hbytes).tryFetch _

/-- The words of a DATA_READ past its last transfer bring no byte (R121, R140). -/
theorem bytesRead_length {q : Request} (hkind : q.kind = .dataRead) (hwords : q.transfers.length ≤ q.words.length) :
    q.bytesRead.length = q.count := by
  obtain ⟨hlength, -⟩ := bytesRead_eq (q := { q with words := q.words.take q.transfers.length }) hkind (by
    change (q.words.take q.transfers.length).length = q.transfers.length
    simpa using hwords)
  have hzip : q.transfers.zip q.words = q.transfers.zip (q.words.take q.transfers.length) := by
    rw [List.zip_eq_zip_take_min, Nat.min_eq_left hwords, List.take_length]
  rw [← hlength]
  exact congrArg (fun l => (List.flatMap _ l).length) hzip

/-- One more transfer of the oldest request answered keeps the agreement (R138). -/
theorem answered_consistent {s : State} {q : Request} {rest : List Request} (h : s.RingsConsistent)
    (hq : s.requests = q :: rest) (word : Word) :
    State.RingsConsistent { s with requests := answeredWith q word :: rest } := by
  obtain ⟨hagree, hserved⟩ := (ringsConsistent_iff s).mp h
  rw [hq] at hagree hserved
  obtain ⟨hbehind, hdiscarded, hwords⟩ := hagree.ordered
  refine (ringsConsistent_iff _).mpr ⟨⟨fun r => ?_, ⟨hbehind, ?_, ?_⟩, fun p hp hs => ?_⟩,
    by simpa [served] using hserved⟩
  · simpa [rolesOf_cons, role] using hagree.ring r
  · simp_all
  · simp_all
  · rcases List.mem_cons.mp hp with rfl | hp
    · obtain ⟨hone, hd, hstage⟩ := hagree.sole q (List.mem_cons_self ..) hs
      exact ⟨by simpa using hone, hd, by simpa using hstage⟩
    · simp [hagree.unsoled_rest p hp] at hs

/-- An answer on the memory port keeps the rings, the queue and the context in agreement (R138). -/
theorem transferAnswered_consistent {s : State} (h : s.RingsConsistent) (success : Bool) (word : Word) :
    (s.transferAnswered success word).RingsConsistent := by
  obtain ⟨hagree, hserved⟩ := (ringsConsistent_iff s).mp h
  cases hq : s.requests with
  | nil => simpa [State.transferAnswered, hq] using h
  | cons q rest =>
    have hbegun : q.begun = true := hserved q (by simp [hq])
    cases success with
    | false =>
      have heq : s.transferAnswered false word = s.finishRequest q rest false := by
        simp [State.transferAnswered, hq, hbegun]
      rw [heq]
      exact finishRequest_consistent h hq (by simp)
    | true =>
      have hanswered := answered_consistent h hq word
      have heq : s.transferAnswered true word =
          if q.transfers.length ≤ q.answered + 1 then
            State.finishRequest { s with requests := answeredWith q word :: rest } (answeredWith q word) rest true
          else { s with requests := answeredWith q word :: rest } := by
        unfold State.transferAnswered
        rw [hq]
        dsimp only
        rw [if_neg (by simp [hbegun]), if_neg (by simp)]
        rfl
      rw [heq]
      split
      · rename_i hlast
        refine finishRequest_consistent hanswered rfl fun _ hkind => bytesRead_length hkind ?_
        have hwords := hanswered.served.words (answeredWith q word) (by simp)
        exact hlast.trans hwords.ge
      · exact hanswered

end Sys2Proof.Machine.Consistency
end

section
namespace Sys2Proof.Machine.Consistency
open TheCycle

/-! ### What leaves the context, the rings and the queue at work (R39, R52) -/

/-- The context is placed and agrees with the rings and the request queue. -/
def Consistent (s : State) : Prop := s.contextPlaced ∧ s.RingsConsistent

/-- The context goes on with the exchange it has, which begins no wait for a retry. -/
inductive SameStay : Option Exchange → Option Exchange → Prop
  | empty : SameStay none none
  | goesOn {e f : Exchange} (source : e.source = f.source) (station : e.station = f.station)
      (orphaned : e.orphaned = f.orphaned) (ending : e.state = .ending → f.state = .ending) :
      SameStay (some e) (some f)

theorem SameStay.refl (x : Option Exchange) : SameStay x x := by
  cases x with
  | none => exact .empty
  | some e => exact .goesOn rfl rfl rfl id

theorem SameStay.holds {x y : Option Exchange} (h : SameStay x y) (r : Ring) : holds x r ↔ holds y r := by
  cases h with
  | empty => exact Iff.rfl
  | goesOn source station orphaned ending => simp [Consistency.holds, source, orphaned]

/-- One state does the work of another: the same exchange, rings and requests, no mark begun, and an engine that may go
on with the exchange. -/
structure SameWork (t s : State) : Prop where
  engine : s.engine = .running ∨ s.engine = .stopping → t.engine = .running ∨ t.engine = .stopping
  mark : t.line.tx.any (·.user = .mark) = true → s.line.tx.any (·.user = .mark) = true
  stay : SameStay t.context s.context
  rings : t.keepsRings s

theorem SameWork.trans {t v s : State} (h : SameWork t v) (h' : SameWork v s) : SameWork t s := by
  refine ⟨h.engine ∘ h'.engine, h'.mark ∘ h.mark, ?_, ?_⟩
  · have hstay := h.stay
    have hstay' := h'.stay
    generalize t.context = x, v.context = y, s.context = z at *
    cases hstay with
    | empty => exact hstay'
    | goesOn source station orphaned ending =>
      cases hstay' with
      | goesOn source' station' orphaned' ending' =>
        exact .goesOn (source.trans source') (station.trans station') (orphaned.trans orphaned') (ending' ∘ ending)
  · obtain ⟨hu, hn, hq⟩ := h.rings
    obtain ⟨hu', hn', hq'⟩ := h'.rings
    exact ⟨hu.trans hu', hn.trans hn', hq.trans hq'⟩

/-- A change outside the engine, the transmitter, the context, the rings and the queue. -/
theorem sameWork_of_frame {t s : State} (h : t.engine = s.engine ∧ t.line.tx = s.line.tx ∧ t.context = s.context
    ∧ t.ringU = s.ringU ∧ t.ringN = s.ringN ∧ t.requests = s.requests) : SameWork t s := by
  obtain ⟨hengine, htx, hcontext, hrings⟩ := h
  exact ⟨by simp [hengine], by simp [htx], hcontext ▸ .refl _, hrings⟩

theorem Agreement.keeps {s t : State} {context : Option Exchange} (h : Agreement s.ringUnit s.requests context)
    (hkeeps : t.keepsRings s) : Agreement t.ringUnit t.requests context := by
  obtain ⟨hrings, hrequests⟩ := keepsRings_iff.mp hkeeps
  rwa [hrequests, funext hrings]

theorem ringsConsistent_of_keeps {t s : State} (h : s.RingsConsistent)
    (hholds : ∀ r, holds t.context r ↔ holds s.context r) (hrings : t.keepsRings s) : t.RingsConsistent := by
  obtain ⟨hagree, hserved⟩ := (ringsConsistent_iff s).mp h
  obtain ⟨-, -, hrequests⟩ := id hrings
  exact (ringsConsistent_iff t).mpr ⟨(hagree.context hholds).keeps hrings, by rwa [hrequests]⟩

/-- An exchange that may wait in ENDING: a ring record's to a station, not orphaned (R52, R64). -/
def mayWait (e : Exchange) : Prop := e.toStation = true ∧ e.orphaned = false ∧ ∃ r i, e.source = .ring r i

theorem contextPlaced_iff (s : State) : s.contextPlaced ↔
    (∀ e, s.context = some e →
        (s.engine = .running ∨ s.engine = .stopping) ∧ (e.state = .ending → mayWait e))
      ∧ (s.line.tx.any (·.user = .mark) = true → s.context = none) := by
  unfold State.contextPlaced
  cases hx : s.context with
  | none => simp
  | some e =>
    have hwaits : mayWait e ↔ e.toStation = true ∧ e.orphaned = false ∧ ∃ r i, e.source = .ring r i := Iff.rfl
    obtain ⟨source⟩ := e
    cases source <;> simp [hwaits] <;> tauto

/-- The context stays placed where the engine, the line and the context stay. -/
theorem contextPlaced_of_frame {t s : State} (hs : s.contextPlaced) (hengine : t.engine = s.engine)
    (hline : t.line = s.line) (hcontext : t.context = s.context) : t.contextPlaced := by
  rw [contextPlaced_iff, hengine, hline, hcontext]
  exact (contextPlaced_iff s).mp hs

theorem SameWork.consistent {t s : State} (h : SameWork t s) (hs : Consistent s) : Consistent t := by
  obtain ⟨hplaced, hrings⟩ := hs
  obtain ⟨hwork, hmark⟩ := (contextPlaced_iff s).mp hplaced
  refine ⟨(contextPlaced_iff t).mpr ⟨fun e he => ?_, fun htx => ?_⟩,
    ringsConsistent_of_keeps hrings h.stay.holds h.rings⟩
  · have hstay := h.stay
    rw [he] at hstay
    generalize hf : s.context = y at hstay
    cases hstay with
    | goesOn source station orphaned ending =>
      obtain ⟨hengine, hending⟩ := hwork _ hf
      refine ⟨h.engine hengine, fun hwaits => ?_⟩
      have hmay := hending (ending hwaits)
      rwa [mayWait, Exchange.toStation, ← source, ← station, ← orphaned] at hmay
  · have hstay := h.stay
    rw [hmark (h.mark htx)] at hstay
    generalize t.context = x at *
    cases hstay
    rfl

/-- With no exchange in the context it is placed. -/
theorem consistent_of_empty {t : State} (hcontext : t.context = none) (h : Agreement t.ringUnit t.requests none)
    (hserved : served t.requests) : Consistent t :=
  ⟨⟨by simp [hcontext], by simp [hcontext], by simp [hcontext]⟩,
    (ringsConsistent_iff t).mpr ⟨by rwa [hcontext], hserved⟩⟩

/-- With no exchange in the context the engine and the line are free to change. -/
theorem Consistent.empty {t s : State} (hs : Consistent s) (hcontext : s.context = none) (ht : t.context = none)
    (hrings : t.keepsRings s) : Consistent t := by
  obtain ⟨hagree, hserved⟩ := (ringsConsistent_iff s).mp hs.2
  rw [hcontext] at hagree
  obtain ⟨-, -, hrequests⟩ := id hrings
  exact consistent_of_empty ht (hagree.keeps hrings) (by rwa [hrequests])

/-- A context in no engine state that works is empty (R177). -/
theorem Consistent.context_none {s : State} (hs : Consistent s) (hrun : s.engine ≠ .running)
    (hstop : s.engine ≠ .stopping) : s.context = none := by
  obtain ⟨⟨hengine, -⟩, -⟩ := hs
  cases hx : s.context with
  | none => rfl
  | some e => exact absurd (hengine (by simp [hx])) (by simp [hrun, hstop])

/-- Time passing does no work (R21, R42). -/
theorem elapse_sameWork (s : State) (k : Nat) : SameWork (s.elapse k) s := by
  refine ⟨by simp, ?_, ?_, by simp [State.keepsRings]⟩
  · cases htx : s.line.tx with
    | none =>
      have hnone : (s.elapse k).line.tx = none := by simp [← Option.not_isSome_iff_eq_none, htx]
      simp [hnone]
    | some x =>
      unfold State.elapse
      split
      · simp [htx]
      · simp [LineUnit.elapse, htx]
  · unfold State.elapse
    split
    · exact .refl _
    · cases s.context with
      | none => exact .empty
      | some e => exact .goesOn rfl rfl rfl id

/-! ### The end of an exchange (R54, R57, R61, R62, R64) -/

/-- A ring with a staged record, or one in an exchange, has no request in the queue (R113). -/
theorem Agrees.noRequests {x : RingUnit} {roles : List Role} {held : Prop} (h : Agrees x roles held)
    (hstage : x.stage.dataRead = true) : roles = [] := by
  rcases h.requests with ⟨-, hkinds⟩ | ⟨hnone, -⟩
  · cases hs : x.stage <;> simp [hs, Stage.dataRead] at hstage <;> simpa [hs, Stage.requestKinds] using hkinds
  · simp [hnone, Stage.dataRead] at hstage

/-- A ring whose record's out data stands is between its requests, with that record (R121). -/
theorem Agreement.offered {s : State} {r : Ring} {context : Option Exchange}
    (h : Agreement s.ringUnit s.requests context) (hstage : (s.ringUnit r).stage.dataRead = true) :
    Ready s r context ∧ ∃ record, (s.ringUnit r).current = some record
      ∧ record.outData.length = record.outLength.toNat := by
  have hring := h.ring r
  have hholds : (s.ringUnit r).stage.holdsRecord = true := by
    cases hs : (s.ringUnit r).stage <;> simp [hs, Stage.dataRead] at hstage <;> rfl
  obtain ⟨record, hcurrent⟩ := Option.isSome_iff_exists.mp (hring.current.trans hholds)
  refine ⟨h.ready ?_ (hring.noRequests hstage), record, hcurrent, hring.outData record hcurrent hstage⟩
  rintro hnone
  simp [hnone, Stage.dataRead] at hstage

theorem not_holds_none (r : Ring) : ¬ holds none r := by simp [holds]

/-- An exchange that no ring's record is in leaves the context with the rings as they are. -/
theorem Agreement.emptied {rings : Ring → RingUnit} {requests : List Request} {e : Exchange}
    (h : Agreement rings requests (some e)) (he : ∀ r i, e.source = .ring r i → e.orphaned = true) :
    Agreement rings requests none := by
  refine h.context fun r => iff_of_false (not_holds_none r) ?_
  rintro ⟨f, i, hf, hsource, horphaned⟩
  obtain rfl := Option.some.inj hf
  simp [he r i hsource] at horphaned

/-- The ring whose record is in the exchange of the context is between its requests once the exchange has left it. -/
theorem Agreement.released {s : State} {e : Exchange} {r : Ring} {i : Byte}
    (h : Agreement s.ringUnit s.requests (some e)) (hsource : e.source = .ring r i) (horphaned : e.orphaned = false) :
    Ready s r none ∧ ∃ record, (s.ringUnit r).current = some record
      ∧ record.outData.length = record.outLength.toNat := by
  have hstage : (s.ringUnit r).stage = .inExchange := (h.ring r).exchange.mpr ⟨e, i, rfl, hsource, horphaned⟩
  obtain ⟨hready, hrecord⟩ := h.offered (r := r) (by simp [hstage, Stage.dataRead])
  refine ⟨hready.context fun o ho => iff_of_false (not_holds_none o) ?_, hrecord⟩
  rintro ⟨f, j, hf, hfsource, -⟩
  obtain rfl := Option.some.inj hf
  obtain ⟨rfl, -⟩ : r = o ∧ i = j := by simpa [hsource] using hfsource
  exact ho rfl

/-- The stay's supervision and accounting do no work (R57). -/
theorem stayEnd_keepsRings (s : State) (e : Exchange) :
    ((s.superviseExchange e).accountExchange e).keepsRings s := by
  simp [State.keepsRings]

section Ends
variable {s : State} {e f : Exchange} (h : Agreement s.ringUnit s.requests (some f)) (hserved : served s.requests)
  (hsource : e.source = f.source) (horphaned : e.orphaned = f.orphaned)
include h hserved hsource horphaned

/-- The source takes its result and the context empties (R57, R64). -/
theorem sourceTakes_agrees (result : Result) (reply : Option Reply) :
    Agreement (s.sourceTakes e result reply).ringUnit (s.sourceTakes e result reply).requests none
      ∧ served (s.sourceTakes e result reply).requests := by
  have hsame {t : State} (he : ∀ r i, f.source = .ring r i → f.orphaned = true) (hkeeps : t.keepsRings s) :
      Agreement t.ringUnit t.requests none ∧ served t.requests :=
    ⟨(h.emptied he).keeps hkeeps, by rwa [hkeeps.2.2]⟩
  unfold State.sourceTakes
  cases hs : e.source with
  | slot i => exact hsame (by simp [← hsource, hs]) (by simp [State.keepsRings])
  | rollCall => exact hsame (by simp [← hsource, hs]) ⟨rfl, rfl, rfl⟩
  | ring r i =>
    cases ho : e.orphaned with
    | true => exact hsame (by simp [← horphaned, ho]) ⟨rfl, rfl, rfl⟩
    | false =>
      obtain ⟨hready, record, hcurrent, -⟩ := h.released (hsource.symm.trans hs) (horphaned.symm.trans ho)
      simp only [hcurrent, Bool.false_eq_true, if_false]
      exact ⟨hready.completes (not_holds_none r) .., completeRecord_served _ _ _ _ _⟩

/-- An exchange ends (R57). -/
theorem endExchange_consistent (result : Result) (reply : Option Reply) :
    Consistent (s.endExchange e result reply) := by
  have hkeeps := stayEnd_keepsRings s e
  obtain ⟨hagree, hserved'⟩ := sourceTakes_agrees (s := (s.superviseExchange e).accountExchange e) (h.keeps hkeeps)
    (by rwa [hkeeps.2.2]) hsource horphaned result reply
  refine consistent_of_empty (by simp) (hagree.keeps ?_) ?_
  · simp [State.keepsRings, State.endExchange]
  · simpa [State.endExchange] using hserved'

/-- A record returns to staging (R54, R124). -/
theorem returnToStaging_consistent {r : Ring} {i : Byte} (hring : e.source = .ring r i) (ho : e.orphaned = false) :
    Consistent (s.returnToStaging e) := by
  obtain ⟨hready, record, hcurrent, hdata⟩ := h.released (hsource.symm.trans hring) (horphaned.symm.trans ho)
  obtain ⟨-, ⟨hrestaged, hothers, hrequests⟩, -, -⟩ := returnToStaging_ring hring hcurrent
  refine consistent_of_empty (by simp) (hready.moves (fun o => ?_) hrequests
    (hready.active.stages (record := record.withProgress e) hdata (not_holds_none r))) (by rwa [hrequests])
  by_cases hr : o = r
  · rw [if_pos hr, hr, hrestaged]
    rfl
  · rw [if_neg hr, hothers o hr]

end Ends

/-- ABORT and the entry to LINE_FAULT end the exchange in the context (R61, R62). -/
theorem interrupt_agrees {s : State} (hs : s.RingsConsistent) (result : Result) :
    Agreement (s.interrupt result).ringUnit (s.interrupt result).requests none
      ∧ served (s.interrupt result).requests := by
  obtain ⟨hagree, hserved⟩ := (ringsConsistent_iff s).mp hs
  unfold State.interrupt
  cases hx : s.context with
  | none => exact ⟨by rwa [hx] at hagree, hserved⟩
  | some e =>
    rw [hx] at hagree
    have hkeeps : (s.accountExchange e).keepsRings s := by simp [State.keepsRings]
    obtain ⟨htaken, hserved'⟩ := sourceTakes_agrees (s := s.accountExchange e) (hagree.keeps hkeeps)
      (by rwa [hkeeps.2.2]) rfl rfl result none
    exact ⟨htaken.keeps ⟨rfl, rfl, rfl⟩, hserved'⟩

theorem interrupted_consistent {s t : State} (hs : s.RingsConsistent) {result : Result} (hcontext : t.context = none)
    (hrings : t.keepsRings (s.interrupt result)) : Consistent t := by
  obtain ⟨hagree, hserved⟩ := interrupt_agrees hs result
  exact consistent_of_empty hcontext (hagree.keeps hrings) (by rwa [hrings.2.2])

theorem enterLineFault_consistent {s : State} (hs : s.RingsConsistent) (code : BitVec 5) :
    Consistent (s.enterLineFault code) :=
  interrupted_consistent hs (result := .lineFault) (by simp) (by simp [State.keepsRings, State.enterLineFault])

end Sys2Proof.Machine.Consistency
end

section
namespace Sys2Proof.Machine.Consistency
open TheCycle

/-! ### How a try begins and concludes (R41, R45, R52, R59) -/

/-- A concluded try is owed a retry, returns its record to staging, or ends its exchange (R52). -/
theorem concludeTry_consistent {s : State} {e : Exchange} (hs : Consistent s) (hx : s.context = some e)
    (o : TryOutcome) (p : Option Reply) : Consistent (s.concludeTry e o p) := by
  obtain ⟨hplaced, hrings⟩ := hs
  obtain ⟨-, hmark⟩ := (contextPlaced_iff s).mp hplaced
  obtain ⟨hagree, hserved⟩ := (ringsConsistent_iff s).mp hrings
  rw [hx] at hagree
  unfold State.concludeTry
  dsimp only
  split
  · rename_i hretry
    obtain ⟨hmay, hrun⟩ := Bool.and_eq_true_iff.mp hretry
    obtain ⟨-, hstation, -, horphaned, r, i, hsource⟩ := (mayRetry_iff _ o).mp hmay
    refine ⟨(contextPlaced_iff _).mpr ⟨fun f hf => ⟨.inl (by simpa using hrun), fun _ => ?_⟩, fun htx => ?_⟩,
      ringsConsistent_of_keeps hrings (fun r => ?_) ⟨rfl, rfl, rfl⟩⟩
    · obtain rfl := Option.some.inj hf
      refine ⟨?_, horphaned, r, i, hsource⟩
      simp only [Exchange.toStation, hsource, Bool.and_eq_true, bne_iff_ne]
      exact ⟨by simp, hstation⟩
    · simp [hmark htx] at hx
    · simp [holds, hx, Exchange.concluded]
  · split
    · rename_i hretry
      obtain ⟨hmay, -⟩ := Bool.and_eq_true_iff.mp hretry
      obtain ⟨-, -, -, horphaned, r, i, hsource⟩ := (mayRetry_iff _ o).mp hmay
      exact returnToStaging_consistent (e := e.concluded o p) hagree hserved rfl rfl hsource horphaned
    · exact endExchange_consistent (e := e.concluded o p) hagree hserved rfl rfl ..

/-- The exchange of a try that begins is the one given (R41). -/
theorem beginTry_context (s : State) (e : Exchange) : ∃ x, (s.beginTry e).context = some x ∧ x.source = e.source
    ∧ x.orphaned = e.orphaned ∧ x.state = .transmitting := by
  have htag : (s.takeTag e).2.source = e.source ∧ (s.takeTag e).2.orphaned = e.orphaned := by
    unfold State.takeTag
    split
    · exact ⟨rfl, rfl⟩
    · dsimp only
      split <;> exact ⟨rfl, rfl⟩
  exact ⟨_, rfl, htag.1, htag.2, rfl⟩

/-- The transmission of a try that begins is no mark (R9). -/
theorem beginTry_mark (s : State) (e : Exchange) : (s.beginTry e).line.tx.any (·.user = .mark) = false := by
  simp [State.beginTry]

/-- A try begins in RUNNING, with the rings and the queue in agreement with its exchange (R41, R177). -/
theorem beginTry_consistent {s : State} {e : Exchange} (hrun : s.engine = .running)
    (hagree : Agreement s.ringUnit s.requests (some e)) (hserved : served s.requests) :
    Consistent (s.beginTry e) := by
  obtain ⟨x, hx, hsource, horphaned, hstate⟩ := beginTry_context s e
  refine ⟨(contextPlaced_iff _).mpr ⟨fun f hf => ⟨.inl (by simpa using hrun), fun hending => ?_⟩,
      by simp [beginTry_mark]⟩, (ringsConsistent_iff _).mpr
      ⟨(hagree.context fun r => ?_).keeps (by simp [State.keepsRings]), by simpa using hserved⟩⟩
  · obtain rfl := Option.some.inj (hx.symm.trans hf)
    simp [hstate] at hending
  · simp [hx, holds, hsource, horphaned]

/-- A roll call ends with no outcome for a ring (R59). -/
theorem endRollCall_consistent {s : State} {e : Exchange} (hs : Consistent s) (hx : s.context = some e)
    (hroll : e.source = .rollCall) : Consistent (s.endRollCall e) := by
  obtain ⟨hagree, hserved⟩ := (ringsConsistent_iff s).mp hs.2
  rw [hx] at hagree
  exact consistent_of_empty (by simp [State.endRollCall])
    ((hagree.emptied (by simp [hroll])).keeps (by simp [State.keepsRings, State.endRollCall]))
    (by simpa [State.endRollCall] using hserved)

theorem takeExpiry_consistent {s : State} {e : Exchange} (hs : Consistent s) (hx : s.context = some e) :
    Consistent (s.takeExpiry e) := by
  unfold State.takeExpiry
  split
  · rename_i hroll
    exact endRollCall_consistent hs hx hroll
  · have hwatch : SameWork { s with lateWatch := some e.station } s := sameWork_of_frame ⟨rfl, rfl, rfl, rfl, rfl, rfl⟩
    exact concludeTry_consistent (hwatch.consistent hs) hx ..

/-! ### The receiver (R14 to R20, R46, R47, R60) -/

theorem takeRollReply_sameWork (s : State) (e : Exchange) (f : FrameReport) : SameWork (s.takeRollReply e f) s := by
  have hframe := takeRollReply_frame s e f
  exact sameWork_of_frame ⟨(congrArg State.engine hframe :), (congrArg (·.line.tx) hframe :),
    (congrArg State.context hframe :), (congrArg State.ringU hframe :), (congrArg State.ringN hframe :),
    (congrArg State.requests hframe :)⟩

theorem receiving?_context {s : State} {e : Exchange} (h : s.receiving? = some e) : s.context = some e := by
  unfold State.receiving? at h
  split at h
  · cases h
  · rename_i hx
    split at h
    · rw [hx, h]
    · cases h

theorem frameAbandoned_consistent {s : State} (hs : Consistent s) : Consistent s.frameAbandoned := by
  unfold State.frameAbandoned
  split
  · rename_i e hreceiving
    have hx := receiving?_context hreceiving
    split
    · rename_i hroll
      have hpost : SameWork (s.postStation e.station 4 false) s := sameWork_of_frame (by simp)
      exact endRollCall_consistent (hpost.consistent hs) (by simpa using hx) hroll
    · exact concludeTry_consistent hs hx ..
  · exact (sameWork_of_frame (by simp)).consistent hs

theorem frameEnd_consistent {s : State} (hs : Consistent s) (f : FrameReport) : Consistent (s.frameEnd f) := by
  unfold State.frameEnd
  split
  · rename_i e hreceiving
    have hx := receiving?_context hreceiving
    split
    · rename_i hroll
      have hreply := takeRollReply_sameWork s e f
      exact endRollCall_consistent (hreply.consistent hs)
        ((congrArg State.context (takeRollReply_frame s e f) :).trans hx) hroll
    · exact concludeTry_consistent hs hx ..
  · dsimp only
    split
    · split
      · exact (sameWork_of_frame (by simp [State.accountLate])).consistent hs
      · exact (sameWork_of_frame (by simp)).consistent hs
    · exact (sameWork_of_frame (by simp)).consistent hs

theorem setReceiver_sameWork (s : State) (x : Receiver) : SameWork (s.setReceiver x) s :=
  sameWork_of_frame (by simp)

theorem abandonFrame_consistent {s : State} (hs : Consistent s) : Consistent s.abandonFrame :=
  frameAbandoned_consistent ((setReceiver_sameWork ..).consistent hs)

theorem takeFrameByte_consistent {s : State} (hs : Consistent s) (b : Byte) : Consistent (s.takeFrameByte b) := by
  have hset (x : Receiver) : Consistent (s.setReceiver x) := (setReceiver_sameWork s x).consistent hs
  unfold State.takeFrameByte
  dsimp only
  split
  · exact hset _
  · split
    · exact hset _
    · split
      · split
        · exact abandonFrame_consistent (hset _)
        · exact hset _
      · split
        · exact hset _
        · split
          · exact hset _
          · exact frameEnd_consistent (hset _) _

/-- A sync arrival moves the try of the context on, or none (R45). -/
theorem syncArrival_sameWork (s : State) : SameWork s.syncArrival s := by
  unfold State.syncArrival
  split
  · rename_i e hx
    split
    · exact ⟨id, id, by rw [hx]; exact .goesOn rfl rfl rfl (by simp), ⟨rfl, rfl, rfl⟩⟩
    · exact sameWork_of_frame (by simp)
  · exact sameWork_of_frame (by simp)

theorem takeHeldExpiry_consistent {s : State} (hs : Consistent s) : Consistent s.takeHeldExpiry := by
  unfold State.takeHeldExpiry
  split
  · rename_i e hx
    split
    · exact takeExpiry_consistent hs hx
    · exact hs
  · exact hs

theorem receiveCell_consistent {s : State} (hs : Consistent s) (cell : Cell) : Consistent (s.receiveCell cell) := by
  unfold State.receiveCell
  split
  · exact hs
  · split
    · split
      · exact ((syncArrival_sameWork _).trans (setReceiver_sameWork ..)).consistent hs
      · exact takeHeldExpiry_consistent hs
    · exact takeHeldExpiry_consistent hs
    · exact takeFrameByte_consistent hs _
    · exact abandonFrame_consistent hs
    · exact takeHeldExpiry_consistent hs

/-! ### Events of the line -/

theorem startBit_sameWork (s : State) : SameWork s.startBit s := by
  unfold State.startBit
  split <;> exact sameWork_of_frame (by simp)

theorem cellArrives_consistent {s : State} (hs : Consistent s) (cell : Cell) : Consistent (s.cellArrives cell) := by
  have hstart : Consistent (if s.line.cell.isNone then s.startBit else s) := by
    split
    · exact (startBit_sameWork s).consistent hs
    · exact hs
  unfold State.cellArrives
  generalize (if s.line.cell.isNone then s.startBit else s) = v at *
  dsimp only
  split
  · exact hstart
  · rename_i age hcell
    have hend : SameWork ((v.elapse (cellLeft age)).endCell cell) (v.elapse (cellLeft age)) :=
      sameWork_of_frame (by simp [State.endCell])
    exact receiveCell_consistent ((hend.trans (elapse_sameWork ..)).consistent hstart) cell

theorem becomeQuiet_sameWork (s : State) : SameWork s.becomeQuiet s := sameWork_of_frame (by simp [State.becomeQuiet])

theorem cutByEcho_sameWork (s : State) : SameWork s.cutByEcho s :=
  ⟨id, by simp [State.cutByEcho], .refl _, rfl, rfl, rfl⟩

theorem txDone_sameWork (s : State) : SameWork s.txDone s := ⟨id, by simp [State.txDone], .refl _, rfl, rfl, rfl⟩

/-- While a mark is sent the context is empty (R23). -/
theorem Consistent.context_of_mark {s : State} {x : Transmission} (hs : Consistent s) (htx : s.line.tx = some x)
    (hmark : x.user = .mark) : s.context = none := by
  obtain ⟨-, hnone⟩ := (contextPlaced_iff s).mp hs.1
  exact hnone (by simp [htx, hmark])

/-- A mark cut by echo mismatch leaves the context empty (R26, R184, R186). -/
theorem markCut_consistent {s : State} (hs : Consistent s) (hx : s.context = none) : Consistent s.markCut := by
  unfold State.markCut
  dsimp only
  split
  · refine enterLineFault_consistent (s := { s with cycle := _ }) ?_ 1
    exact ringsConsistent_of_keeps hs.2 (fun _ => Iff.rfl) ⟨rfl, rfl, rfl⟩
  · split <;> exact hs.empty hx (by simp [hx]) (by simp [State.keepsRings])

/-- A try cut by echo mismatch concludes, or ends at the line fault (R43, R59, R62). -/
theorem tryCut_consistent {s : State} (hs : Consistent s) : Consistent s.tryCut := by
  unfold State.tryCut
  split
  · split
    · exact enterLineFault_consistent hs.2 1
    · exact hs
  · rename_i e hx
    dsimp only
    split
    · refine enterLineFault_consistent (s := { s with context := some _ }) ?_ 1
      refine ringsConsistent_of_keeps hs.2 (fun r => ?_) ⟨rfl, rfl, rfl⟩
      split <;> simp [holds, hx, Exchange.concluded]
    · split
      · rename_i hroll
        exact endRollCall_consistent hs hx hroll
      · exact concludeTry_consistent hs hx ..

/-- A completed mark opens the walk, or halts the engine (R25, R184). -/
theorem markComplete_consistent {s : State} (hs : Consistent s) (hx : s.context = none) :
    Consistent s.markComplete := by
  unfold State.markComplete
  dsimp only
  split <;> exact hs.empty hx (by simp [hx]) (by simp [State.keepsRings])

/-- A completed try ends a broadcast or opens the reply window (R42, R58). -/
theorem tryComplete_consistent {s : State} (hs : Consistent s) : Consistent s.tryComplete := by
  unfold State.tryComplete
  split
  · exact hs
  · rename_i e hx
    split
    · obtain ⟨hagree, hserved⟩ := (ringsConsistent_iff s).mp hs.2
      rw [hx] at hagree
      exact endExchange_consistent hagree hserved rfl rfl ..
    · have hwindow : SameWork { s with
          context := some { e with state := .awaitingReply, expiry := some (e.window : Int) } } s :=
        ⟨id, id, by rw [hx]; exact .goesOn rfl rfl rfl (by simp), ⟨rfl, rfl, rfl⟩⟩
      exact hwindow.consistent hs

end Sys2Proof.Machine.Consistency
end

section
namespace Sys2Proof.Machine.Consistency
open TheCycle

/-! ### Events of the cycle and of the exchange context -/

theorem SameWork.refl (s : State) : SameWork s s := sameWork_of_frame ⟨rfl, rfl, rfl, rfl, rfl, rfl⟩

/-- An early close of the walk does no work (R32). -/
theorem closeWalk_sameWork (s : State) : SameWork s.closeWalk s := by
  by_cases hopen : s.cycle.phase ≠ .cyclic ∨ s.cycle.walk = none
  · rw [closeWalk_finished hopen]
    exact .refl s
  · obtain ⟨hphase, hsome⟩ := not_or.mp hopen
    obtain ⟨w, hwalk⟩ := Option.ne_none_iff_exists'.mp hsome
    obtain ⟨hkeeps, -⟩ := skipAll_keeps ((List.finRange 32).filter (leftOver s w)) s
    rw [closeWalk_unfinished (not_not.mp hphase) hwalk]
    exact sameWork_of_frame ⟨(congrArg State.engine hkeeps :), (congrArg (·.line.tx) hkeeps :),
      (congrArg State.context hkeeps :), (congrArg State.ringU hkeeps :), (congrArg State.ringN hkeeps :),
      (congrArg State.requests hkeeps :)⟩

/-- RUNNING with an empty context, as at every opportunity of the cycle (R31, R33). -/
structure Opening (s : State) : Prop where
  consistent : Consistent s
  context : s.context = none
  engine : s.engine = .running

theorem Opening.agreement {s : State} (h : Opening s) :
    Agreement s.ringUnit s.requests none ∧ served s.requests := by
  have hrings := (ringsConsistent_iff s).mp h.consistent.2
  rwa [h.context] at hrings

theorem Opening.sameWork {t s : State} (h : Opening s) (hwork : SameWork t s) (hengine : t.engine = s.engine) :
    Opening t := by
  refine ⟨hwork.consistent h.consistent, ?_, hengine.trans h.engine⟩
  have hstay := hwork.stay
  rw [h.context] at hstay
  generalize t.context = x at *
  cases hstay
  rfl

theorem Opening.moveCycle {s : State} (h : Opening s) (c : CycleUnit) : Opening { s with cycle := c } :=
  h.sameWork (sameWork_of_frame ⟨rfl, rfl, rfl, rfl, rfl, rfl⟩) rfl

/-- An exchange of no ring begins its try at an opportunity (R31, R36, R41). -/
theorem Opening.beginTry {s : State} {e : Exchange} (h : Opening s) (hsource : ∀ r i, e.source ≠ .ring r i) :
    Consistent (s.beginTry e) := by
  obtain ⟨hagree, hserved⟩ := h.agreement
  refine beginTry_consistent h.engine (hagree.context fun r => iff_of_false ?_ (not_holds_none r)) hserved
  rintro ⟨f, i, hf, hring, -⟩
  obtain rfl := Option.some.inj hf
  exact hsource r i hring

/-- A slot at its opportunity completes without bus time, or its try begins (R31). -/
theorem Opening.runSlot {s : State} (h : Opening s) (i : Fin 32) : Consistent (s.runSlot i) := by
  unfold State.runSlot
  split
  · exact (sameWork_of_frame (by simp)).consistent h.consistent
  · exact (h.moveCycle _).beginTry fun r j => by simp [State.slotExchange, Exchange.enter]

/-- A staged record that its tests complete is written back (R35). -/
theorem Opening.completes {s : State} (h : Opening s) {r : Ring} (hstage : (s.ringUnit r).stage = .staged)
    (record : RingRecord) (result : Result) : Opening (s.completeRecord r record result none) := by
  obtain ⟨hagree, -⟩ := h.agreement
  obtain ⟨hready, -⟩ := hagree.offered (r := r) (by simp [hstage, Stage.dataRead])
  exact ⟨consistent_of_empty (by simpa using h.context) (hready.completes (not_holds_none r) ..)
    (completeRecord_served _ _ _ _ _), by simpa using h.context, by simpa using h.engine⟩

/-- A staged record that is chosen leaves staging, and its try begins (R34, R123). -/
theorem Opening.beginRecord {s : State} (h : Opening s) {r : Ring} (hstage : (s.ringUnit r).stage = .staged)
    {record : RingRecord} (hcurrent : (s.ringUnit r).current = some record) :
    Consistent (s.beginRecord r record) := by
  obtain ⟨hagree, hserved⟩ := h.agreement
  obtain ⟨hready, record', hcurrent', hdata⟩ := hagree.offered (r := r) (by simp [hstage, Stage.dataRead])
  obtain rfl : record = record' := by simpa [hcurrent] using hcurrent'
  have hheld : holds (some (record.exchange r)) r := ⟨_, _, rfl, rfl, rfl⟩
  refine beginTry_consistent (by simpa using h.engine) ?_ (by simpa using hserved)
  refine (hready.context (other := some (record.exchange r)) fun o ho => iff_of_false ?_ (not_holds_none o)).moves
    (fun o => State.ringUnit_setRing ..) (by simp)
    (hready.active.agrees (by simp [hcurrent, Stage.holdsRecord]) (by simp [Stage.requestKinds]) (by simp [hheld])
      (by simp_all) (by simp))
  rintro ⟨f, i, hf, hsource, -⟩
  obtain rfl := Option.some.inj hf
  obtain ⟨rfl, -⟩ : r = o ∧ record.index = i := by simpa [RingRecord.exchange, Exchange.enter] using hsource
  exact ho rfl

/-- An offer chooses a record, or leaves the context empty for the next (R34, R35). -/
theorem Opening.offer {s : State} (h : Opening s) (r : Ring) :
    Consistent (s.offer r).1 ∧ ((s.offer r).2 = false → Opening (s.offer r).1) := by
  unfold State.offer
  dsimp only
  split
  · rename_i record hstage hcurrent
    split
    · have hcompleted := h.completes hstage record
      exact ⟨(hcompleted _).consistent, fun _ => hcompleted _⟩
    · split
      · exact ⟨h.beginRecord hstage hcurrent, by simp⟩
      · exact ⟨h.consistent, fun _ => h⟩
  · exact ⟨h.consistent, fun _ => h⟩

/-- The roll call of a selection is made or not (R36). -/
theorem Opening.considerRollCall {s : State} (h : Opening s) : Consistent s.considerRollCall := by
  unfold State.considerRollCall
  split
  · exact h.consistent
  · split
    · exact h.consistent
    · split
      · exact (sameWork_of_frame (by simp)).consistent h.consistent
      · exact (h.moveCycle _).beginTry (by simp [Exchange.enter])

/-- Two records that the tests complete are offered one after the other (R35, R136). -/
theorem Opening.offerBoth {s : State} (h : Opening s) (hboth : ∀ r, s.offerCompletes r = true) (order : Nat)
    (first : Ring) : Opening ((selectionMade s order).offerBoth first) := by
  choose record result hfails using fun r => (State.offerCompletes_iff s r).mp (hboth r)
  have hnothing : s.offersChooseNothing fun r => some (record r, result r) := by
    refine fun r => ⟨by simp, fun a b hab => ?_⟩
    obtain ⟨rfl, rfl⟩ := Prod.mk.inj (Option.some.inj hab)
    exact hfails r
  obtain ⟨hfirst, hsecond⟩ := offers_eq hnothing order first
  have hmade : Opening (selectionMade s order) := h.sameWork (sameWork_of_frame ⟨rfl, rfl, rfl, rfl, rfl, rfl⟩) rfl
  obtain ⟨-, hopen⟩ := hmade.offer first
  obtain ⟨-, hopen'⟩ := (hopen (by rw [hfirst])).offer (otherRing first)
  exact hopen' (by rw [hfirst, hsecond])

/-- The selection chooses ring U's record, ring N's, a roll call, or nothing (R34). -/
theorem Opening.select {s : State} (h : Opening s) : Consistent s.select := by
  by_cases hboth : ∀ r, s.offerCompletes r = true
  · obtain ⟨first, hselect⟩ := State.select_both hboth
    rw [hselect]
    exact (h.offerBoth hboth (s.orderIndex + 1) first).considerRollCall
  · obtain ⟨r, hr⟩ := not_forall.mp hboth
    rw [select_in_order (by simpa using hr)]
    have hmade : Opening (selectionMade s s.orderIndex) :=
      h.sameWork (sameWork_of_frame ⟨rfl, rfl, rfl, rfl, rfl, rfl⟩) rfl
    obtain ⟨hchosen, hopen⟩ := hmade.offer .u
    split
    · exact hchosen
    · rename_i hnone
      obtain ⟨hchosen', hopen'⟩ := (hopen (by simpa using hnone)).offer .n
      split
      · exact hchosen'
      · rename_i hnone'
        exact (hopen' (by simpa using hnone')).considerRollCall

/-- A mark begins with the context empty (R24). -/
theorem beginMark_consistent {s : State} (hs : Consistent s) (hx : s.context = none) (w : MarkWant) :
    Consistent (s.beginMark w) := by
  rw [beginMark_eq s w _ rfl]
  obtain ⟨host, hmarked⟩ := marked_fields s.applyPendingSwap
  rw [hmarked]
  exact hs.empty hx (by simpa using hx) (by simp [State.keepsRings])

/-- An owed retry begins as a try, or its record returns to staging (R53). -/
theorem retry_consistent {s : State} {e : Exchange} (hs : Consistent s) (hx : s.context = some e)
    (hcan : s.retryCanRun = true) :
    Consistent (if s.retryMayBegin e then s.beginTry e else s.returnToStaging e) := by
  obtain ⟨hagree, hserved⟩ := (ringsConsistent_iff s).mp hs.2
  obtain ⟨hplaced, -⟩ := (contextPlaced_iff s).mp hs.1
  have hending : e.state = .ending := by
    have := (Bool.and_eq_true_iff.mp hcan).1
    simpa [hx] using this
  obtain ⟨-, horphaned, r, i, hsource⟩ := (hplaced e hx).2 hending
  rw [hx] at hagree
  split
  · rename_i hmay
    have hrun : s.engine = .running := by
      simp only [State.retryMayBegin, Bool.and_eq_true, decide_eq_true_eq] at hmay
      exact hmay.1.1
    exact beginTry_consistent hrun hagree hserved
  · exact returnToStaging_consistent hagree hserved rfl rfl hsource horphaned

end Sys2Proof.Machine.Consistency
end

section
namespace Sys2Proof.Machine.Consistency
open TheCycle

/-! ### Ring commands and ring registers (R112, R116, R118, R131, R132) -/

/-- A ring's own counts move under the record and the requests that it has. -/
theorem Agrees.recount {x y : RingUnit} {roles : List Role} {held : Prop} (h : Agrees x roles held)
    (hstage : y.stage = x.stage) (hcurrent : y.current = x.current) (hpending : y.pending ≤ y.length)
    (hoff : y.state = .off → y.head = 0 ∧ y.pending = 0 ∧ y.stage = .none)
    (hhead : y.state ≠ .off → 4 ≤ y.length ∧ y.length ≤ 256 ∧ y.head < y.length)
    (hworking : y.stage ≠ .none → y.state = .active) (hreason : y.reason ≠ .none ↔ y.state = .halted) :
    Agrees y roles held :=
  ⟨hpending, hoff, hhead, hworking, hreason, by rw [hcurrent, hstage]; exact h.current,
    by rw [hstage]; exact h.requests, by rw [hstage]; exact h.exchange, by rw [hcurrent, hstage]; exact h.outData,
    by rw [hcurrent]; exact h.reading⟩

section Rings
variable {s : State} {r : Ring} (hs : Consistent s)
include hs

theorem Consistent.ring : Agrees (s.ringUnit r) (rolesOf s.requests r) (holds s.context r) :=
  ((ringsConsistent_iff s).mp hs.2).1.ring r

theorem Consistent.setRing {y : RingUnit} (hstage : y.stage = (s.ringUnit r).stage)
    (hy : Agrees y (rolesOf s.requests r) (holds s.context r)) : Consistent (s.setRing r y) := by
  obtain ⟨hagree, hserved⟩ := (ringsConsistent_iff s).mp hs.2
  have hcontext : (s.setRing r y).context = s.context := by simp
  refine ⟨contextPlaced_of_frame hs.1 (by simp) (by simp) (by simp),
    (ringsConsistent_iff _).mpr ⟨?_, by simpa using hserved⟩⟩
  rw [hcontext]
  exact hagree.retouch (fun o => State.ringUnit_setRing ..) (by simp) hstage hy

theorem Consistent.tryFetch (r : Ring) : Consistent (s.tryFetch r) := by
  obtain ⟨hagree, hserved⟩ := (ringsConsistent_iff s).mp hs.2
  have hcontext : (s.tryFetch r).context = s.context := by simp
  refine ⟨contextPlaced_of_frame hs.1 (by simp) (by simp) (by simp),
    (ringsConsistent_iff _).mpr ⟨?_, tryFetch_served hserved r⟩⟩
  rw [hcontext]
  exact hagree.tryFetch r

theorem Consistent.decided (code arg : Byte) (d : Decision) (k : BitVec 4) (i : Byte) :
    Consistent (s.setDecision code arg d k i) := (sameWork_of_frame (by simp)).consistent hs

theorem Consistent.misuse (m : Misuse) : Consistent (s.misuse m) := (sameWork_of_frame (by simp)).consistent hs

/-- RING_ENABLE (R131). -/
theorem enableRing_consistent (arg : Byte) : Consistent (s.enableRing arg r) := by
  unfold State.enableRing
  dsimp only
  split
  · exact hs.decided ..
  · split
    · exact hs.decided ..
    · rename_i hstate hlength
      have hring := hs.ring (r := r)
      have hoff := not_not.mp hstate
      obtain ⟨-, -, hnone⟩ := hring.off hoff
      obtain ⟨h4, h256⟩ : 4 ≤ (s.ringUnit r).length ∧ (s.ringUnit r).length ≤ 256 := by
        simpa [legalLength] using hlength
      refine (Consistent.tryFetch (hs.setRing ?_ ?_) r).decided ..
      · exact hnone.symm
      · exact hring.recount hnone.symm rfl (Nat.zero_le _) (by simp) (fun _ => ⟨h4, h256, by simp only; omega⟩)
          (fun _ => rfl) (by simp)

/-- RING_RESUME (R132). -/
theorem resumeRing_consistent (arg : Byte) : Consistent (s.resumeRing arg r) := by
  unfold State.resumeRing
  dsimp only
  split
  · exact hs.decided ..
  · rename_i hstate
    have hring := hs.ring (r := r)
    have hhalted := not_not.mp hstate
    refine (Consistent.tryFetch (hs.setRing ?_ ?_) r).decided ..
    · rfl
    · exact hring.recount rfl rfl hring.pending (by simp) (fun _ => hring.head (by simp [hhalted])) (fun _ => rfl)
        (by simp)

/-- A post of records (R116). -/
theorem postRecords_consistent (n : Nat) : Consistent (s.postRecords r n) := by
  have hring := hs.ring (r := r)
  unfold State.postRecords
  dsimp only
  split
  · exact hs.misuse _
  · rename_i hstate
    split
    · exact hs
    · split
      · exact hs.setRing rfl (hring.recount rfl rfl hring.pending hring.off hring.head hring.working hring.reason)
      · rename_i hroom
        refine Consistent.tryFetch (hs.setRing ?_ ?_) r
        · rfl
        · exact hring.recount rfl rfl (Nat.not_lt.mp hroom) (fun hoff => absurd hoff hstate) hring.head hring.working
            hring.reason

/-- A write of ring STATUS (R117). -/
theorem clearPostRefused_consistent : Consistent (s.setRing r { s.ringUnit r with postRefused := false }) := by
  have hring := hs.ring (r := r)
  exact hs.setRing rfl (hring.recount rfl rfl hring.pending hring.off hring.head hring.working hring.reason)

/-- A write of BASE or LENGTH (R112). -/
theorem ringConfigWrite_consistent (base : RingUnit → Word) (length : RingUnit → Nat) :
    Consistent (s.ringConfigWrite r fun x => { x with base := base x, length := length x }) := by
  have hring := hs.ring (r := r)
  unfold State.ringConfigWrite
  dsimp only
  split
  · rename_i hoff
    obtain ⟨-, hpending, -⟩ := hring.off hoff
    exact hs.setRing rfl (hring.recount rfl rfl (by simp [hpending]) hring.off (fun h => absurd hoff h) hring.working
      hring.reason)
  · exact hs.misuse _

end Rings

/-! ### RING_RESET (R133, R134, R144) -/

/-- A request whose ring gives it up is discarded (R144). -/
def givenUp (r : Ring) (q : Request) : Request := if q.ring = r then { q with discarded := true } else q

/-- Of a queue in which the oldest alone is begun a ring gives up the oldest, and drops its others (R144). -/
theorem dropRequests_cons {q : Request} {rest : List Request} (r : Ring) (hbegun : q.begun = true)
    (hbehind : ∀ p ∈ rest, p.begun = false) :
    dropRequests (fun q => q.ring = r) (q :: rest) = givenUp r q :: rest.filter (fun p => p.ring ≠ r) := by
  have hkept : rest.filter (fun p => decide (p.ring ≠ r) || p.begun) = rest.filter (fun p => p.ring ≠ r) :=
    List.filter_congr fun p hp => by simp [hbehind p hp]
  have hsame : (rest.filter (fun p => p.ring ≠ r)).map (givenUp r) = rest.filter (fun p => p.ring ≠ r) := by
    refine (List.map_congr_left fun p hp => ?_).trans (List.map_id _)
    have hring : p.ring ≠ r := by simpa using (List.mem_filter.mp hp).2
    simp [givenUp, hring]
  rw [dropRequests_eq, List.filter_cons_of_pos (by simp [hbegun]), List.map_cons, hkept]
  exact congrArg _ hsame

theorem rolesOf_filter_ne (l : List Request) (r o : Ring) :
    rolesOf (l.filter (fun p => p.ring ≠ r)) o = if o = r then [] else rolesOf l o := by
  unfold rolesOf
  rw [List.filter_filter]
  by_cases ho : o = r
  · subst ho
    simp
  · rw [if_neg ho]
    refine congrArg _ (List.filter_congr fun p _ => ?_)
    by_cases hp : p.ring = o <;> simp [hp, ho]

/-- Giving a request up changes whether it is discarded (R144). -/
theorem givenUp_fields (r : Ring) (q : Request) : (givenUp r q).ring = q.ring ∧ (givenUp r q).begun = q.begun
    ∧ (givenUp r q).sole = q.sole ∧ (givenUp r q).words = q.words ∧ (givenUp r q).answered = q.answered
    ∧ (q.discarded = true → (givenUp r q).discarded = true) := by
  unfold givenUp
  split <;> simp

section Drop
variable {l : List Request} (r : Ring) (hordered : Ordered l) (hserved : served l)
include hordered hserved

theorem dropRequests_cases : (l = [] ∧ dropRequests (fun q => q.ring = r) l = [])
    ∨ ∃ q rest, l = q :: rest ∧ q.begun = true
      ∧ dropRequests (fun q => q.ring = r) l = givenUp r q :: rest.filter (fun p => p.ring ≠ r) := by
  cases l with
  | nil => exact .inl ⟨rfl, by simp [dropRequests]⟩
  | cons q rest =>
    have hbegun : q.begun = true := hserved q rfl
    exact .inr ⟨q, rest, rfl, hbegun, dropRequests_cons r hbegun hordered.behind⟩

theorem dropRequests_ordered :
    Ordered (dropRequests (fun q => q.ring = r) l) ∧ served (dropRequests (fun q => q.ring = r) l) := by
  rcases dropRequests_cases r hordered hserved with ⟨-, hdrop⟩ | ⟨q, rest, rfl, hbegun, hdrop⟩ <;> rw [hdrop]
  · exact ⟨⟨by simp, by simp, by simp⟩, by simp [served]⟩
  · obtain ⟨-, hbegun', -, hwords, hanswered, -⟩ := givenUp_fields r q
    have hkept {p : Request} (hp : p ∈ rest.filter (fun p => p.ring ≠ r)) : p ∈ rest := (List.mem_filter.mp hp).1
    refine ⟨⟨fun p hp => hordered.behind p (hkept hp), fun p hp hd => ?_, fun p hp => ?_⟩, by
      simp [served, hbegun', hbegun]⟩ <;> rcases List.mem_cons.mp hp with rfl | hp
    · rw [hbegun', hbegun]
    · exact hordered.discarded p (List.mem_cons_of_mem q (hkept hp)) hd
    · rw [hwords, hanswered]
      exact hordered.words q (List.mem_cons_self ..)
    · exact hordered.words p (List.mem_cons_of_mem q (hkept hp))

theorem dropRequests_roles_other {o : Ring} (ho : o ≠ r) :
    rolesOf (dropRequests (fun q => q.ring = r) l) o = rolesOf l o := by
  rcases dropRequests_cases r hordered hserved with ⟨rfl, hdrop⟩ | ⟨q, rest, rfl, -, hdrop⟩ <;> rw [hdrop]
  obtain ⟨hring, -⟩ := givenUp_fields r q
  rw [rolesOf_cons, rolesOf_cons, hring, rolesOf_filter_ne, if_neg ho]
  by_cases hqo : q.ring = o
  · have hqr : q.ring ≠ r := by rwa [hqo]
    simp [givenUp, hqr]
  · rw [if_neg hqo, if_neg hqo]

theorem dropRequests_roles_own : rolesOf (dropRequests (fun q => q.ring = r) l) r = []
    ∨ (rolesOf (dropRequests (fun q => q.ring = r) l) r).map (·.discarded) = [true] := by
  rcases dropRequests_cases r hordered hserved with ⟨rfl, hdrop⟩ | ⟨q, rest, rfl, -, hdrop⟩ <;> rw [hdrop]
  · exact .inl rfl
  · obtain ⟨hring, -⟩ := givenUp_fields r q
    rw [rolesOf_cons, hring, rolesOf_filter_ne]
    by_cases hqr : q.ring = r
    · exact .inr (by simp [hqr, role, givenUp])
    · exact .inl (by simp [hqr])

end Drop

/-- A ring given up, with its exchange out of the context or orphaned (R133, R134, R144). -/
theorem gaveUp_agrees {s : State} {r : Ring} {context : Option Exchange} (hs : s.RingsConsistent)
    (hheld : ¬ holds context r) (hothers : ∀ o, o ≠ r → (holds context o ↔ holds s.context o)) :
    Agreement (gaveUp s r).ringUnit (gaveUp s r).requests context ∧ served (gaveUp s r).requests := by
  obtain ⟨hagree, hserved⟩ := (ringsConsistent_iff s).mp hs
  obtain ⟨hordered, hserved'⟩ := dropRequests_ordered r hagree.ordered hserved
  have hrequests : (gaveUp s r).requests = dropRequests (fun q => q.ring = r) s.requests := rfl
  rw [hrequests]
  refine ⟨⟨fun o => ?_, hordered, ?_⟩, hserved'⟩
  · rw [gaveUp_ringUnit]
    by_cases ho : o = r
    · rw [if_pos ho, ho]
      exact agrees_off _ _ (dropRequests_roles_own r hagree.ordered hserved) hheld
    · rw [if_neg ho, dropRequests_roles_other r hagree.ordered hserved ho, hothers o ho]
      exact hagree.ring o
  · rcases dropRequests_cases r hagree.ordered hserved with ⟨-, hdrop⟩ | ⟨q, rest, hq, -, hdrop⟩ <;> rw [hdrop]
    · simp
    · rw [hq] at hagree
      obtain ⟨-, -, hsole, -, -, hdiscarded⟩ := givenUp_fields r q
      intro p hp hp'
      rcases List.mem_cons.mp hp with rfl | hp
      · obtain ⟨hone, hd, hstage⟩ := hagree.sole q (List.mem_cons_self ..) (hsole.symm.trans hp')
        obtain ⟨-, rfl⟩ := List.cons_eq_cons.mp hone
        refine ⟨rfl, hdiscarded hd, fun o => ?_⟩
        rw [gaveUp_ringUnit]
        split
        · rfl
        · exact hstage o
      · simp [hagree.unsoled_rest p (List.mem_filter.mp hp).1] at hp'

/-- RING_RESET leaves the ring given up, and its exchange ended or orphaned (R133, R134). -/
theorem resetRing_consistent {s : State} {r : Ring} (hs : Consistent s) : Consistent (s.resetRing r) := by
  obtain ⟨hplaced, hmark⟩ := (contextPlaced_iff s).mp hs.1
  rw [resetRing_eq]
  by_cases hnone : ∀ e i, s.context = some e → e.source ≠ .ring r i
  · have hheld : ¬ holds s.context r := by
      rintro ⟨e, i, hx, hsource, -⟩
      exact hnone e i hx hsource
    obtain ⟨hagree, hserved⟩ := gaveUp_agrees hs.2 hheld fun _ _ => Iff.rfl
    rw [orphan_untouched (by simpa using hnone)]
    refine ⟨contextPlaced_of_frame hs.1 (by simp) (by simp) (by simp),
      (ringsConsistent_iff _).mpr ⟨?_, hserved⟩⟩
    simpa using hagree
  · push Not at hnone
    obtain ⟨e, i, hx, hsource⟩ := hnone
    have hothers (context : Option Exchange) (hcontext : ∀ f, context = some f → f.source = e.source) (o : Ring)
        (ho : o ≠ r) : holds context o ↔ holds s.context o := by
      refine iff_of_false ?_ ?_
      · rintro ⟨f, j, hf, hfsource, -⟩
        rw [hcontext f hf, hsource] at hfsource
        exact ho (Source.ring.inj hfsource).1.symm
      · rintro ⟨f, j, hf, hfsource, -⟩
        obtain rfl := Option.some.inj (hx.symm.trans hf)
        rw [hsource] at hfsource
        exact ho (Source.ring.inj hfsource).1.symm
    by_cases hending : e.state = .ending
    · obtain ⟨hagree, hserved⟩ := gaveUp_agrees hs.2 (not_holds_none r) (hothers none (by simp))
      rw [orphan_ends (s := gaveUp s r) (by simpa using hx) hsource hending]
      exact consistent_of_empty (by simp) (hagree.keeps (by simp [State.keepsRings])) (by simpa using hserved)
    · have hheld : ¬ holds (some { e with orphaned := true }) r := by
        rintro ⟨f, j, hf, -, horphaned⟩
        obtain rfl := Option.some.inj hf
        cases horphaned
      obtain ⟨hagree, hserved⟩ := gaveUp_agrees hs.2 hheld (hothers _ (by simp))
      rw [orphan_runsOn (s := gaveUp s r) (by simpa using hx) hsource hending]
      refine ⟨(contextPlaced_iff _).mpr ⟨fun f hf => ⟨by simpa using (hplaced e hx).1, fun hwaits => ?_⟩,
        fun htx => ?_⟩, (ringsConsistent_iff _).mpr ⟨hagree.keeps ⟨rfl, rfl, rfl⟩, hserved⟩⟩
      · obtain rfl := Option.some.inj hf
        exact absurd hwaits hending
      · simp [hmark (by simpa using htx)] at hx

end Sys2Proof.Machine.Consistency
end

section
namespace Sys2Proof.Machine.Consistency
open TheCycle

/-! ### Resets (R135, R136, R145, R176, R189) -/

/-- Of a queue in which the oldest alone is begun a SOFT_RESET leaves that one, discarded (R136, R145). -/
theorem softResetRequests_cases {l : List Request} (hordered : Ordered l) (hserved : served l) :
    softResetRequests l = []
      ∨ ∃ q : Request, q.begun = true ∧ q.words.length = q.answered
        ∧ softResetRequests l = [{ q with discarded := true, sole := true }] := by
  cases l with
  | nil => exact .inl rfl
  | cons q rest =>
    have hbegun : q.begun = true := hserved q rfl
    have hdropped : rest.filter (·.begun) = [] := List.filter_eq_nil_iff.mpr fun p hp => by
      simp [hordered.behind p hp]
    exact .inr ⟨q, hbegun, hordered.words q (List.mem_cons_self ..), by
      simp [softResetRequests, dropRequests, hbegun, hdropped]⟩

/-- Both rings OFF, the context empty, and at most one request, which a reset left begun (R135, R136, R145). -/
theorem agreement_off {rings : Ring → RingUnit} {requests : List Request}
    (hrings : ∀ r, ∃ base length, rings r = { RingUnit.reset with base := base, length := length })
    (hrequests : requests = [] ∨ ∃ q, q.begun = true ∧ q.discarded = true ∧ q.words.length = q.answered
      ∧ requests = [q]) : Agreement rings requests none ∧ served requests := by
  have hroles (r : Ring) : rolesOf requests r = [] ∨ (rolesOf requests r).map (·.discarded) = [true] := by
    rcases hrequests with rfl | ⟨q, -, hd, -, rfl⟩
    · exact .inl rfl
    · rw [rolesOf_single]
      by_cases hr : r = q.ring
      · exact .inr (by simp [hr, role, hd])
      · exact .inl (if_neg hr)
  have hring (r : Ring) : Agrees (rings r) (rolesOf requests r) (holds none r) ∧ (rings r).stage = .none := by
    obtain ⟨base, length, heq⟩ := hrings r
    rw [heq]
    exact ⟨agrees_off _ _ (hroles r) (not_holds_none r), rfl⟩
  rcases hrequests with rfl | ⟨q, hbegun, hd, hwords, rfl⟩
  · exact ⟨⟨fun r => (hring r).1, ⟨by simp, by simp, by simp⟩, by simp⟩, by simp [served]⟩
  · refine ⟨⟨fun r => (hring r).1, ⟨by simp, by simp [hbegun], by simp [hwords]⟩, fun p hp _ => ?_⟩, by
      simp [served, hbegun]⟩
    obtain rfl := List.mem_singleton.mp hp
    exact ⟨rfl, hd, fun r => (hring r).2⟩

theorem consistent_off {t : State} (hcontext : t.context = none)
    (hrings : ∀ r, ∃ base length, t.ringUnit r = { RingUnit.reset with base := base, length := length })
    (hrequests : t.requests = [] ∨ ∃ q, q.begun = true ∧ q.discarded = true ∧ q.words.length = q.answered
      ∧ t.requests = [q]) : Consistent t := by
  obtain ⟨hagree, hserved⟩ := agreement_off hrings hrequests
  exact consistent_of_empty hcontext hagree hserved

theorem softReset_consistent {s : State} (hs : Consistent s) (arg : Byte) : Consistent (s.softReset arg) := by
  obtain ⟨hagree, hserved⟩ := (ringsConsistent_iff s).mp hs.2
  have hrequests : (s.softReset arg).requests = softResetRequests s.requests := by
    simp [State.softReset, State.done]
  refine consistent_off rfl (fun r => by cases r <;> exact ⟨_, _, rfl⟩) ?_
  rw [hrequests]
  rcases softResetRequests_cases hagree.ordered hserved with h | ⟨q, hbegun, hwords, h⟩
  · exact .inl h
  · exact .inr ⟨{ q with discarded := true, sole := true }, hbegun, rfl, hwords, h⟩

/-! ### What a command leads to -/

/-- Every next state of an answer is consistent. -/
def Leads (a : Answer) : Prop := ∀ t, a = .next t → Consistent t

theorem leads_next {t : State} (h : Consistent t) : Leads (.next t) := by
  intro u hu
  obtain rfl := Host.Outcome.next.inj hu
  exact h

theorem leads_refused (x : Refusal) : Leads (.refused x) := by
  intro u hu
  cases hu

section Commands
variable {s : State} (hs : Consistent s)
include hs

theorem leads_hostAccess {effect : State → State} (h : Consistent (effect s)) : Leads (s.hostAccess effect) := by
  unfold State.hostAccess
  split
  · exact leads_next hs
  · exact leads_next h

/-- A host access that changes nothing of the engine, the line, the context, the rings and the queue. -/
theorem leads_quietAccess {effect : State → State} (h : SameWork (effect s) s) : Leads (s.hostAccess effect) :=
  leads_hostAccess hs (h.consistent hs)

/-! ### Engine commands (R180, R183, R185) -/

/-- START needs HALTED, where the context is empty (R177, R180). -/
theorem start_consistent (arg : Byte) : Consistent (s.start arg) := by
  unfold State.start
  split
  · exact hs.decided ..
  · rename_i hhalted
    have hx := hs.context_none (by simp [not_not.mp hhalted]) (by simp [not_not.mp hhalted])
    split
    · exact hs.decided ..
    · split
      · exact hs.decided ..
      · have hstarting (c : CycleUnit) : Consistent { s with engine := .starting, cycle := c } :=
          hs.empty hx hx ⟨rfl, rfl, rfl⟩
        exact (hstarting _).decided ..

/-- STOP halts an engine with nothing in flight, and otherwise lets the exchange run to its end (R183). -/
theorem stop_consistent (arg : Byte) : Consistent (s.stop arg) := by
  unfold State.stop
  split
  · split
    · have hwork : SameWork { s.dropCycleWork with engine := .stopping } s :=
        ⟨fun _ => .inr rfl, id, .refl _, rfl, rfl, rfl⟩
      exact (hwork.consistent hs).decided ..
    · rename_i hidle
      have hx : s.context = none := by
        have : s.workInFlight = false := by simpa using hidle
        simpa using (Bool.or_eq_false_iff.mp this).1
      exact (hs.empty (t := s.enterHalted) hx (by simpa using hx) (by simp [State.keepsRings])).decided ..
  · rename_i hengine
    have hx := hs.context_none (by simp [hengine]) (by simp [hengine])
    exact (hs.empty (t := s.enterHalted) hx (by simpa using hx) (by simp [State.keepsRings])).decided ..
  · rename_i hengine
    have hx := hs.context_none (by simp [hengine]) (by simp [hengine])
    exact (hs.empty (t := s.leaveLineFault) hx (by simpa [State.leaveLineFault] using hx)
      (by simp [State.keepsRings, State.leaveLineFault])).decided ..
  all_goals exact hs.decided ..

omit hs in
theorem cutByEngine_sameWork (s : State) : SameWork s.cutByEngine s :=
  ⟨by simp, by simp, by simpa using SameStay.refl s.context, by simp [State.keepsRings]⟩

/-- ABORT ends the exchange in the context (R61, R185). -/
theorem abort_consistent (arg : Byte) : Consistent (s.abort arg) := by
  have hcut := ((cutByEngine_sameWork s).consistent hs).2
  have hhalted : Consistent (s.cutByEngine.interrupt .aborted).enterHalted :=
    interrupted_consistent hcut (result := .aborted) (by simp) (by simp [State.keepsRings])
  have hleft : Consistent (s.cutByEngine.interrupt .aborted).leaveLineFault :=
    interrupted_consistent hcut (result := .aborted) (by simp [State.leaveLineFault])
      (by simp [State.keepsRings, State.leaveLineFault])
  unfold State.abort
  split
  · exact hhalted.decided ..
  · exact hhalted.decided ..
  · exact hhalted.decided ..
  · exact hleft.decided ..
  all_goals exact hs.decided ..

/-- SWAP changes the schedule (R97). -/
theorem swap_consistent (arg : Byte) : Consistent (s.swap arg) := by
  unfold State.swap
  split
  · exact hs.decided ..
  · split
    · exact hs.decided ..
    · split
      · exact (sameWork_of_frame (t := s.applySwap.done 5 arg) (by simp [State.done])).consistent hs
      · exact (sameWork_of_frame (by simp [State.accepted])).consistent hs

/-! ### Station commands and register writes -/

omit hs in
theorem stationCommand_sameWork (s : State) (code arg : Byte) (accepts : StationState → Bool)
    (act : Station → Station) : SameWork (s.stationCommand code arg accepts act) s := by
  unfold State.stationCommand
  dsimp only
  split
  · exact sameWork_of_frame (by simp [State.refusedArgument])
  · split
    · exact sameWork_of_frame (by simp [State.done])
    · exact sameWork_of_frame (by simp [State.refusedState])

theorem clearSticky_leads (arg : Byte) : Leads (execClearSticky arg s) := by
  refine leads_quietAccess hs ?_
  split
  · exact sameWork_of_frame (by simp [State.done, State.clearAllSticky])
  · exact stationCommand_sameWork ..

theorem leads_haltedWrite {effect : State → State} (h : SameWork (effect s) s) :
    Leads (s.hostAccess (·.haltedWrite effect)) := by
  refine leads_quietAccess hs ?_
  unfold State.haltedWrite
  split
  · exact h
  · exact sameWork_of_frame (by simp)

omit hs in
theorem loseAtLimit_sameWork (s : State) : SameWork s.loseAtLimit s := by
  unfold State.loseAtLimit
  induction List.finRange 62 generalizing s with
  | nil => exact .refl s
  | cons i slots ih =>
    rw [List.foldl_cons]
    refine (ih _).trans ?_
    dsimp only
    split
    · exact sameWork_of_frame (by simp)
    · exact .refl s

/-! ### Ring commands -/

theorem ringCommand_consistent (code arg : Byte) {effect : Ring → State} (h : ∀ r, Consistent (effect r)) :
    Consistent (s.ringCommand code arg effect) := by
  unfold State.ringCommand
  split
  · exact hs.decided ..
  · exact h _

end Commands

end Sys2Proof.Machine.Consistency
end

section
namespace Sys2Proof.Machine.Consistency
open TheCycle

/-! ### The events of the line (R2, R10, R11, R17, R19) -/

/-- A change that does no work in a state with an empty context leaves it empty. -/
theorem SameWork.context_none {t s : State} (h : SameWork t s) (hx : s.context = none) : t.context = none := by
  have hstay := h.stay
  rw [hx] at hstay
  generalize t.context = x at hstay
  cases hstay
  rfl

theorem setCycle_sameWork (s : State) (c : CycleUnit) : SameWork { s with cycle := c } s :=
  sameWork_of_frame ⟨rfl, rfl, rfl, rfl, rfl, rfl⟩

section Events
variable {s : State} (hs : Consistent s)
include hs

theorem cellArrival_leads (cell : Cell) : Leads (execCellArrival cell s) := by
  unfold execCellArrival
  split
  · exact leads_next hs
  · exact leads_next (cellArrives_consistent hs cell)

theorem elapse_consistent (k : Nat) : Consistent (s.elapse k) := (elapse_sameWork s k).consistent hs

theorem gapLimitExpiry_leads : Leads (execGapLimitExpiry s) := by
  unfold execGapLimitExpiry
  split
  · exact leads_next (abandonFrame_consistent (elapse_consistent hs _))
  · exact leads_next hs

theorem lineQuiet_leads : Leads (execLineQuiet s) := by
  unfold execLineQuiet
  split
  · exact leads_next ((becomeQuiet_sameWork _).consistent (elapse_consistent hs _))
  · exact leads_next hs

theorem echoMismatch_leads : Leads (execEchoMismatch s) := by
  have hcut := (cutByEcho_sameWork s).consistent hs
  unfold execEchoMismatch
  split
  · exact leads_next hs
  · rename_i x htx
    split
    · rename_i hmark
      exact leads_next (markCut_consistent hcut (hs.context_of_mark htx hmark))
    · exact leads_next (tryCut_consistent hcut)

theorem transmissionComplete_leads : Leads (execTransmissionComplete s) := by
  unfold execTransmissionComplete
  split
  · exact leads_next hs
  · rename_i x htx
    have hdone : SameWork (s.elapse x.left).txDone s := (txDone_sameWork _).trans (elapse_sameWork s x.left)
    split
    · rename_i hmark
      exact leads_next (markComplete_consistent (hdone.consistent hs)
        (hdone.context_none (hs.context_of_mark htx hmark)))
    · exact leads_next (tryComplete_consistent (hdone.consistent hs))

/-! ### The events of the cycle (R23, R24, R27, R31, R33) -/

theorem markDue_leads : Leads (execMarkDue s) := by
  unfold execMarkDue
  split
  · exact leads_next (((closeWalk_sameWork _).trans (setCycle_sameWork _ _)).consistent (elapse_consistent hs _))
  · exact leads_next hs

theorem markBegin_leads : Leads (execMarkBegin s) := by
  unfold execMarkBegin
  split
  · exact leads_next hs
  · split
    · rename_i hcan
      have hx : s.context = none := by
        simp only [State.markCanBegin, Bool.and_eq_true, Option.isNone_iff_eq_none] at hcan
        tauto
      exact leads_next (beginMark_consistent hs hx _)
    · exact leads_next hs

theorem quietWaitLimit_leads : Leads (execQuietWaitLimit s) := by
  unfold execQuietWaitLimit
  cases s.waitLeft? with
  | none => exact leads_next hs
  | some k => exact leads_next (enterLineFault_consistent (elapse_consistent hs _).2 2)

theorem slotOpportunity_leads : Leads (execSlotOpportunity s) := by
  unfold execSlotOpportunity
  split
  · exact leads_next hs
  · split
    · rename_i hcan
      have hopening : Opening s := by
        simp only [State.slotCanRun, Bool.and_eq_true, decide_eq_true_eq, Option.isNone_iff_eq_none] at hcan
        exact ⟨hs, by tauto, by tauto⟩
      split
      · exact leads_next (hopening.runSlot _)
      · exact leads_next ((sameWork_of_frame (by simp)).consistent hs)
    · exact leads_next hs

theorem owedSelection_leads : Leads (execOwedSelection s) := by
  unfold execOwedSelection
  split
  · rename_i hcan
    have hopening : Opening s := by
      simp only [State.selectionCanRun, Bool.and_eq_true, decide_eq_true_eq, Option.isNone_iff_eq_none] at hcan
      exact ⟨hs, by tauto, by tauto⟩
    exact leads_next hopening.select
  · exact leads_next hs

/-! ### The events of the context and of the memory port (R42, R53, R138) -/

theorem windowExpiry_leads : Leads (execWindowExpiry s) := by
  unfold execWindowExpiry
  cases s.windowLeft? with
  | none => exact leads_next hs
  | some k =>
    have helapsed := elapse_consistent hs k
    dsimp only
    cases hx : (s.elapse k).context with
    | none => exact leads_next helapsed
    | some e => exact leads_next (takeExpiry_consistent helapsed hx)

theorem retryOpportunity_leads : Leads (execRetryOpportunity s) := by
  unfold execRetryOpportunity
  cases hx : s.context with
  | none => exact leads_next hs
  | some e =>
    dsimp only
    split
    · rename_i hcan
      rw [← apply_ite]
      exact leads_next (retry_consistent hs hx hcan)
    · exact leads_next hs

theorem memoryTransferAnswer_leads (success : Bool) (word : Word) :
    Leads (execMemoryTransferAnswer success word s) := by
  exact leads_next ⟨contextPlaced_of_frame hs.1 (by simp) (by simp) (by simp),
    transferAnswered_consistent hs.2 success word⟩

/-! ### RESET and INIT (R176) -/

omit hs in
theorem hardwareReset_leads : Leads (execHardwareReset s) :=
  leads_next (consistent_off rfl (fun r => by cases r <;> exact ⟨_, _, rfl⟩) (.inl rfl))

theorem resetReleased_leads : Leads (execResetReleased s) := by
  unfold execResetReleased
  split
  · exact leads_next ((sameWork_of_frame (t := { s with resetAsserted := false }) (by simp)).consistent hs)
  · exact leads_next hs

theorem initClearingFinished_leads : Leads (execInitClearingFinished s) := by
  unfold execInitClearingFinished
  split
  · rename_i hinit
    have hengine : s.engine = .init := by
      simp only [Bool.and_eq_true, decide_eq_true_eq] at hinit
      exact hinit.1
    have hx := hs.context_none (by simp [hengine]) (by simp [hengine])
    exact leads_next (hs.empty hx hx ⟨rfl, rfl, rfl⟩)
  · exact leads_next hs

end Events

end Sys2Proof.Machine.Consistency
end

section
namespace Sys2Proof.Machine.Consistency
open TheCycle

/-! ### Host accesses (R176, R191, R194) -/

theorem clampedIf_sameWork {t s : State} (h : SameWork t s) (changed : Bool) : SameWork (t.clampedIf changed) s := by
  unfold State.clampedIf
  split
  · exact (sameWork_of_frame (by simp)).trans h
  · exact h

section Accesses
variable {s : State} (hs : Consistent s)
include hs

/-! ### Engine and station commands (R80 to R84, R97, R170, R180, R183, R185, R189) -/

theorem start_leads (arg : Byte) : Leads (execStart arg s) := leads_hostAccess hs (start_consistent hs arg)

theorem stop_leads (arg : Byte) : Leads (execStop arg s) := leads_hostAccess hs (stop_consistent hs arg)

theorem abort_leads (arg : Byte) : Leads (execAbort arg s) := leads_hostAccess hs (abort_consistent hs arg)

theorem softReset_leads (arg : Byte) : Leads (execSoftReset arg s) :=
  leads_hostAccess hs (softReset_consistent hs arg)

theorem swap_leads (arg : Byte) : Leads (execSwap arg s) := leads_hostAccess hs (swap_consistent hs arg)

theorem queueClear_leads (arg : Byte) : Leads (execQueueClear arg s) :=
  leads_quietAccess hs (sameWork_of_frame (by simp [State.done]))

theorem admit_leads (arg : Byte) : Leads (execAdmit arg s) := leads_quietAccess hs (stationCommand_sameWork ..)

theorem bar_leads (arg : Byte) : Leads (execBar arg s) := leads_quietAccess hs (stationCommand_sameWork ..)

theorem forget_leads (arg : Byte) : Leads (execForget arg s) := leads_quietAccess hs (stationCommand_sameWork ..)

/-! ### The configuration registers (R191, R192) -/

theorem lineConfigWrite_leads (data : Word) : Leads (execLineConfigWrite data s) :=
  leads_haltedWrite hs (clampedIf_sameWork (sameWork_of_frame (by simp)) _)

theorem cyclePeriodWrite_leads (data : Word) : Leads (execCyclePeriodWrite data s) :=
  leads_haltedWrite hs (clampedIf_sameWork (sameWork_of_frame (by simp)) _)

theorem guardWrite_leads (data : Word) : Leads (execGuardWrite data s) :=
  leads_quietAccess hs (clampedIf_sameWork (sameWork_of_frame (by simp)) _)

theorem missLimitWrite_leads (data : Word) : Leads (execMissLimitWrite data s) :=
  leads_quietAccess hs ((loseAtLimit_sameWork _).trans
    (clampedIf_sameWork (sameWork_of_frame (by simp)) _))

theorem rollcallConfigWrite_leads (data : Word) : Leads (execRollcallConfigWrite data s) :=
  leads_quietAccess hs (clampedIf_sameWork (sameWork_of_frame (by simp)) _)

theorem notifyThresholdWrite_leads (data : Word) : Leads (execNotifyThresholdWrite data s) :=
  leads_quietAccess hs (clampedIf_sameWork (sameWork_of_frame (by simp)) _)

/-! ### The schedule, the stations and the exchange memory (R86, R87, R92, R93, R101, R107, R108) -/

theorem holdMaskWrite_leads (data : Word) : Leads (execHoldMaskWrite data s) :=
  leads_quietAccess hs (sameWork_of_frame (by simp))

theorem slotSelectWrite_leads (data : Word) : Leads (execSlotSelectWrite data s) :=
  leads_quietAccess hs (sameWork_of_frame (by simp))

theorem slotRegisterWrite_leads (register : SlotRegister) (data : Word) :
    Leads (execSlotRegisterWrite register data s) := by
  refine leads_quietAccess hs ?_
  split
  · exact sameWork_of_frame (by simp)
  · exact clampedIf_sameWork (sameWork_of_frame (by simp)) _

theorem stationSelectWrite_leads (data : Word) : Leads (execStationSelectWrite data s) :=
  leads_quietAccess hs (clampedIf_sameWork (sameWork_of_frame (by simp)) _)

theorem stationConfigWrite_leads (data : Word) : Leads (execStationConfigWrite data s) :=
  leads_quietAccess hs (clampedIf_sameWork (sameWork_of_frame (by simp)) _)

theorem exmemAddrWrite_leads (data : Word) : Leads (execExmemAddrWrite data s) :=
  leads_quietAccess hs (sameWork_of_frame (by simp))

theorem exmemDataRead_leads : Leads (execExmemDataRead s) := by
  unfold execExmemDataRead
  split
  · exact leads_next ((sameWork_of_frame (by simp)).consistent hs)
  · exact leads_next ((sameWork_of_frame (by simp)).consistent hs)

theorem exmemDataWrite_leads (data : Word) : Leads (execExmemDataWrite data s) :=
  leads_quietAccess hs (sameWork_of_frame (by simp))

/-! ### The rings (R112, R116, R117, R131 to R133) -/

theorem ringEnable_leads (arg : Byte) : Leads (execRingEnable arg s) :=
  leads_hostAccess hs (ringCommand_consistent hs _ _ fun _ => enableRing_consistent hs arg)

theorem ringResume_leads (arg : Byte) : Leads (execRingResume arg s) :=
  leads_hostAccess hs (ringCommand_consistent hs _ _ fun _ => resumeRing_consistent hs arg)

theorem ringReset_leads (arg : Byte) : Leads (execRingReset arg s) :=
  leads_hostAccess hs (ringCommand_consistent hs _ _ fun _ => (resetRing_consistent hs).decided ..)

theorem ringStatusWrite_leads (r : Ring) (data : Word) : Leads (execRingStatusWrite r data s) := by
  refine leads_hostAccess hs ?_
  split
  · exact clearPostRefused_consistent hs
  · exact hs

theorem post_leads (r : Ring) (data : Word) : Leads (execPost r data s) :=
  leads_hostAccess hs (postRecords_consistent hs _)

theorem baseWrite_leads (r : Ring) (data : Word) : Leads (execBaseWrite r data s) :=
  leads_hostAccess hs (ringConfigWrite_consistent hs (fun _ => _) (·.length))

theorem lengthWrite_leads (r : Ring) (data : Word) : Leads (execLengthWrite r data s) :=
  leads_hostAccess hs (ringConfigWrite_consistent hs (·.base) fun _ => _)

/-! ### The window registers (R167, R173, R174, R193) -/

theorem queuePop_leads (data : Word) : Leads (execQueuePop data s) :=
  leads_quietAccess hs (sameWork_of_frame (by simp))

theorem intPendingWrite_leads (data : Word) : Leads (execIntPendingWrite data s) :=
  leads_quietAccess hs (sameWork_of_frame (by simp))

theorem intEnableWrite_leads (data : Word) : Leads (execIntEnableWrite data s) :=
  leads_quietAccess hs (sameWork_of_frame (by simp))

theorem windowStatusWrite_leads (data : Word) : Leads (execWindowStatusWrite data s) :=
  leads_quietAccess hs (sameWork_of_frame (by simp))

/-! ### Accesses that the model refuses or ignores (R178, R194) -/

theorem commandCodeUnknown_leads (code arg : Byte) : Leads (execCommandCodeUnknown code arg s) := by
  unfold execCommandCodeUnknown
  split
  · exact leads_refused _
  · exact leads_hostAccess hs (hs.decided ..)

theorem narrowWrite_leads (offset : Byte) (enables : BitVec 4) (data : Word) :
    Leads (execNarrowWrite offset enables data s) := by
  unfold execNarrowWrite
  split
  · exact leads_hostAccess hs (hs.misuse _)
  · exact leads_refused _

theorem ignoredRegisterWrite_leads (offset : Byte) (data : Word) :
    Leads (execIgnoredRegisterWrite offset data s) := by
  unfold execIgnoredRegisterWrite
  split
  · exact leads_next hs
  · exact leads_refused _

/-! ### Every command (R39, R52, R111, R113, R136, R138, R145, R177) -/

theorem exec_leads (c : Instr) : Leads (exec c s) := by
  cases c with
  | hardwareReset => exact hardwareReset_leads
  | initClearingFinished => exact initClearingFinished_leads hs
  | resetReleased => exact resetReleased_leads hs
  | startBit => exact leads_next ((startBit_sameWork s).consistent hs)
  | cellArrival cell => exact cellArrival_leads hs cell
  | gapLimitExpiry => exact gapLimitExpiry_leads hs
  | lineQuiet => exact lineQuiet_leads hs
  | echoMismatch => exact echoMismatch_leads hs
  | transmissionComplete => exact transmissionComplete_leads hs
  | markDue => exact markDue_leads hs
  | markBegin => exact markBegin_leads hs
  | quietWaitLimit => exact quietWaitLimit_leads hs
  | slotOpportunity => exact slotOpportunity_leads hs
  | owedSelection => exact owedSelection_leads hs
  | windowExpiry => exact windowExpiry_leads hs
  | retryOpportunity => exact retryOpportunity_leads hs
  | memoryTransferAnswer success word => exact memoryTransferAnswer_leads hs success word
  | start arg => exact start_leads hs arg
  | stop arg => exact stop_leads hs arg
  | abort arg => exact abort_leads hs arg
  | softReset arg => exact softReset_leads hs arg
  | swap arg => exact swap_leads hs arg
  | queueClear arg => exact queueClear_leads hs arg
  | admitStation arg => exact admit_leads hs arg
  | bar arg => exact bar_leads hs arg
  | forget arg => exact forget_leads hs arg
  | clearSticky arg => exact clearSticky_leads hs arg
  | ringEnable arg => exact ringEnable_leads hs arg
  | ringResume arg => exact ringResume_leads hs arg
  | ringReset arg => exact ringReset_leads hs arg
  | post r data => exact post_leads hs r data
  | ringStatusWrite r data => exact ringStatusWrite_leads hs r data
  | baseWrite r data => exact baseWrite_leads hs r data
  | lengthWrite r data => exact lengthWrite_leads hs r data
  | queuePop data => exact queuePop_leads hs data
  | intPendingWrite data => exact intPendingWrite_leads hs data
  | intEnableWrite data => exact intEnableWrite_leads hs data
  | windowStatusWrite data => exact windowStatusWrite_leads hs data
  | lineConfigWrite data => exact lineConfigWrite_leads hs data
  | cyclePeriodWrite data => exact cyclePeriodWrite_leads hs data
  | guardWrite data => exact guardWrite_leads hs data
  | missLimitWrite data => exact missLimitWrite_leads hs data
  | rollcallConfigWrite data => exact rollcallConfigWrite_leads hs data
  | notifyThresholdWrite data => exact notifyThresholdWrite_leads hs data
  | holdMaskWrite data => exact holdMaskWrite_leads hs data
  | slotSelectWrite data => exact slotSelectWrite_leads hs data
  | slotRegisterWrite register data => exact slotRegisterWrite_leads hs register data
  | stationSelectWrite data => exact stationSelectWrite_leads hs data
  | stationConfigWrite data => exact stationConfigWrite_leads hs data
  | exmemAddrWrite data => exact exmemAddrWrite_leads hs data
  | exmemDataRead => exact exmemDataRead_leads hs
  | exmemDataWrite data => exact exmemDataWrite_leads hs data
  | commandCodeUnknown code arg => exact commandCodeUnknown_leads hs code arg
  | narrowWrite offset enables data => exact narrowWrite_leads hs offset enables data
  | ignoredRegisterWrite offset data => exact ignoredRegisterWrite_leads hs offset data

theorem idleStep_leads : Leads (idleStep s) := by
  unfold idleStep
  split
  · exact exec_leads hs _
  · refine leads_next ?_
    unfold State.bitTime
    split
    · exact hs
    · exact elapse_consistent hs 1

theorem step_leads : Leads (step s) := by
  unfold step
  split
  · exact exec_leads ((sameWork_of_frame (by simp)).consistent hs) _
  · exact idleStep_leads hs

end Accesses

/-! ### The bounds of the request queue (R136, R145) -/

theorem requestsOf_length_le {s : State} (h : s.RingsConsistent) (r : Ring) : (s.requestsOf r).length ≤ 2 := by
  obtain ⟨hagree, -⟩ := (ringsConsistent_iff s).mp h
  simpa [rolesOf, State.requestsOf] using (hagree.ring r).length_le

/-- A request is of one ring or of the other. -/
theorem requests_length (s : State) : s.requests.length = (s.requestsOf .u).length + (s.requestsOf .n).length := by
  have hother : s.requestsOf .n = s.requests.filter (fun q => !decide (q.ring = .u)) :=
    List.filter_congr fun q _ => by cases q.ring <;> simp
  rw [hother, State.requestsOf]
  exact List.length_eq_length_filter_add _

theorem sole_alone {s : State} (h : s.RingsConsistent) {q : Request} (hq : q ∈ s.requests) (hsole : q.sole = true) :
    s.requests = [q] := by
  obtain ⟨hagree, -⟩ := (ringsConsistent_iff s).mp h
  exact (hagree.sole q hq hsole).1

/-- Settles O9: `Consistent` holds after every command (`exec_leads`, a lemma per command), since each either does no
work (`SameWork`), empties the context, or moves one ring along with its requests (`Agreement`). -/
theorem contextRingsAndRequestsStayConsistent : Obligations.ContextRingsAndRequestsStayConsistent := by
  refine ⟨fun s t hplaced hrings hstep => step_leads ⟨hplaced, hrings⟩ t hstep, fun s h => ?_⟩
  have hu := requestsOf_length_le h .u
  have hn := requestsOf_length_le h .n
  have htotal := requests_length s
  exact ⟨by omega, hu, hn, fun q hq hsole => sole_alone h hq hsole⟩

end Sys2Proof.Machine.Consistency
end

section
namespace Sys2Proof.Machine.StationTable
open TheCycle

/-! ### Supervision (R75 to R77) -/

/-- A station in service that misses stays up to the miss limit is LOST, and its entry is posted (R77). -/
theorem supervise_loses {s : State} {a : Address} (h : (s.station a).state.inService = true)
    (hlimit : s.settings.missLimit ≤ (s.station a).missCount + 1) :
    s.supervise a false =
      (s.post { Entry.blank .station 3 s.cycle.number with station := a }).setStation a
        { s.station a with state := .lost, missCount := 0 } := by
  simp only [State.supervise, h, hlimit, Bool.not_true, Bool.false_eq_true, if_true, if_false]
  exact postStation_setStation ..

/-- A station in service that misses a stay below the miss limit is SUSPECT, and nothing is posted (R76). -/
theorem supervise_suspects {s : State} {a : Address} (h : (s.station a).state.inService = true)
    (hlimit : (s.station a).missCount + 1 < s.settings.missLimit) :
    s.supervise a false =
      s.setStation a { s.station a with state := .suspect, missCount := (s.station a).missCount + 1 } := by
  simp only [State.supervise, h, not_le.mpr hlimit, Bool.not_true, Bool.false_eq_true, if_false]

/-- An answered stay makes a station in service ACTIVE, and nothing is posted (R75). -/
theorem supervise_answers {s : State} {a : Address} (h : (s.station a).state.inService = true) :
    s.supervise a true = s.setStation a { s.station a with state := .active, missCount := 0 } := by
  simp only [State.supervise, h, Bool.not_true, Bool.false_eq_true, if_true, if_false]

/-- A supervision update changes the Station Table, the queue and the flags alone (R75 to R77). -/
theorem supervise_keepsRest (s : State) (a : Address) (answered : Bool) :
    { s.supervise a answered with
      stations := s.stations, queue := s.queue
      host := { (s.supervise a answered).host with intPending := s.host.intPending } } = s := by
  simp

/-- Settles O48: an answered stay, a missed one below the miss limit, and one at or above it. -/
theorem supervisionUpdates : Obligations.SupervisionUpdates := by
  refine ⟨fun x => by simp [inService_iff], fun s a hstate => ?_⟩
  have hservice := (inService_iff _).mpr hstate
  refine ⟨supervise_answered hservice, ?_, ?_, fun hbelow => ⟨?_, ?_, ?_⟩, fun hlimit => ⟨?_, ?_, ?_⟩,
    fun answered => ⟨fun b hb => supervise_station_other s hb answered, supervise_keepsRest ..⟩⟩
  · simp [supervise_answers hservice]
  · simp [supervise_answers hservice]
  · rw [supervise_missed hservice, if_neg (not_le.mpr hbelow)]
  · simp [supervise_suspects hservice hbelow]
  · simp [supervise_suspects hservice hbelow]
  · rw [supervise_missed hservice, if_pos hlimit]
  · simp [supervise_loses hservice hlimit]
  · simp [supervise_loses hservice hlimit]

end Sys2Proof.Machine.StationTable
end

section
namespace Sys2Proof.Machine.StationTable
open TheCycle

/-! ### Station commands (R80 to R84) -/

/-- What a station command that acts leaves: its record, every other record, COMMAND_STATUS, and all else (R80). -/
theorem recordDone_fields (s : State) (code arg : Byte) {a : Address} (h1 : 1 ≤ a.toNat) (h62 : a.toNat ≤ 62)
    (r : Station) :
    ((s.setStation a r).done code arg).station a = r
      ∧ (∀ b, b ≠ a → ((s.setStation a r).done code arg).station b = s.station b)
      ∧ ((s.setStation a r).done code arg).host = { s.host with commandStatus :=
          { code := code, arg := arg, decision := .done, detail := 0, index := 0 } }
      ∧ { (s.setStation a r).done code arg with stations := s.stations, host := s.host } = s := by
  have hrecord (b : Address) : ((s.setStation a r).done code arg).station b = (s.setStation a r).station b :=
    State.station_congr (by simp [State.done]) b
  refine ⟨?_, fun b hb => ?_, ?_, ?_⟩
  · rw [hrecord, State.station_setStation, if_pos ⟨rfl, h1, h62⟩]
  · rw [hrecord, station_setStation_other s hb]
  · simp [State.done, State.setDecision]
  · simp [State.done]

section Command
variable {c : Instr} {s : State} {code arg : Byte} {accepts : StationState → Bool} {act : Station → Station}
  (hexec : exec c s = .next (s.stationCommand code arg accepts act))
include hexec

/-- A station argument out of range is refused (R80). -/
theorem exec_badArgument (h : arg = 0 ∨ 62 < arg.toNat) :
    exec c s = .next { s with host := { s.host with commandStatus :=
      { code := code, arg := arg, decision := .refusedArgument, detail := 0, index := 0 } } } := by
  have hrange : stationArg arg = false := by
    rcases h with rfl | h
    · rfl
    · simp [stationArg]
      omega
  rw [hexec]
  simp [State.stationCommand, hrange, State.refusedArgument, State.setDecision]

variable {a : Address} (harg : arg.toNat = a.toNat) (h1 : 1 ≤ a.toNat) (h62 : a.toNat ≤ 62)
include harg h1 h62

/-- A station command acts on the record of its argument, or is refused with that record's state (R80). -/
theorem exec_stationCommand :
    exec c s = .next (if accepts (s.station a).state then (s.setStation a (act (s.station a))).done code arg
      else s.refusedState code arg (s.station a).state.code) := by
  have hrange : stationArg arg = true := by simp [stationArg, harg, h1, h62]
  have ha : stationOfArg arg = a := by
    apply BitVec.eq_of_toNat_eq
    simp only [stationOfArg, BitVec.extractLsb'_toNat, Nat.shiftRight_zero]
    omega
  simp only [hexec, State.stationCommand, hrange, ha, Bool.not_true, Bool.false_eq_true, if_false]

/-- A station command refuses a station in a state that it does not accept (R80, R179). -/
theorem exec_badState (h : accepts (s.station a).state = false) :
    exec c s = .next { s with host := { s.host with commandStatus :=
      { code := code, arg := arg, decision := .refusedState
        detail := BitVec.ofNat 4 (s.station a).state.code, index := 0 } } } := by
  rw [exec_stationCommand hexec harg h1 h62, if_neg (by simp [h])]
  rfl

/-- A station command acts at once on a station in a state that it accepts, and shows DONE (R80, R179). -/
theorem exec_acts (h : accepts (s.station a).state = true) :
    ∃ t, exec c s = .next t
      ∧ t.station a = act (s.station a)
      ∧ (∀ b, b ≠ a → t.station b = s.station b)
      ∧ t.host = { s.host with commandStatus :=
          { code := code, arg := arg, decision := .done, detail := 0, index := 0 } }
      ∧ { t with stations := s.stations, host := s.host } = s := by
  rw [exec_stationCommand hexec harg h1 h62, if_pos h]
  exact ⟨_, rfl, recordDone_fields s code arg h1 h62 _⟩

end Command

section Commands
variable {s : State} (hs : s.engine ≠ .init) (arg : Byte)
include hs

theorem exec_admit : exec (.admitStation arg) s = .next (s.stationCommand 6 arg (fun x => x = .joining)
    (fun r => { r with state := .active, nextTag := 0, missCount := 0 })) := by
  change execAdmit arg s = _
  rw [execAdmit, State.hostAccess_taken hs]

theorem exec_bar : exec (.bar arg) s = .next (s.stationCommand 7 arg StationState.mayBeBarred
    (fun r => { r with state := .barred, missCount := 0 })) := by
  change execBar arg s = _
  rw [execBar, State.hostAccess_taken hs]

theorem exec_forget : exec (.forget arg) s = .next (s.stationCommand 8 arg (fun _ => true)
    (fun r => { r with state := .absent, identity := none, missCount := 0, nextTag := 0, sticky := 0 })) := by
  change execForget arg s = _
  rw [execForget, State.hostAccess_taken hs]

theorem exec_clearSticky_all : exec (.clearSticky 0) s = .next (s.clearAllSticky.done 9 0) := by
  change execClearSticky 0 s = _
  rw [execClearSticky, State.hostAccess_taken hs, if_pos rfl]

theorem exec_clearSticky_one (h : arg ≠ 0) : exec (.clearSticky arg) s = .next
    (s.stationCommand 9 arg (fun _ => true) (fun r => { r with sticky := 0 })) := by
  change execClearSticky arg s = _
  rw [execClearSticky, State.hostAccess_taken hs, if_neg h]

/-- CLEAR_STICKY of argument 0 empties every sticky set and nothing else (R84). -/
theorem exec_clearSticky_all_fields :
    ∃ t, exec (.clearSticky 0) s = .next t
      ∧ (∀ i : Fin 62, t.stations[i] = { s.stations[i] with sticky := 0 })
      ∧ t.host = { s.host with commandStatus :=
          { code := 9, arg := 0, decision := .done, detail := 0, index := 0 } }
      ∧ { t with stations := s.stations, host := s.host } = s := by
  refine ⟨_, exec_clearSticky_all hs, ?_⟩
  simp [State.clearAllSticky, State.done, State.setDecision]

end Commands

/-- The states that BAR does not accept (R82). -/
theorem not_mayBeBarred {x : StationState} (h : x ∈ [.absent, .barred]) : x.mayBeBarred = false := by
  simp only [List.mem_cons, List.not_mem_nil, or_false] at h
  rcases h with rfl | rfl <;> rfl

/-- The states that BAR accepts (R82). -/
theorem mayBeBarred {x : StationState} (h : x ∈ [.joining, .active, .suspect, .lost]) : x.mayBeBarred = true := by
  simp only [List.mem_cons, List.not_mem_nil, or_false] at h
  rcases h with rfl | rfl | rfl | rfl <;> rfl

/-- Settles O47: each command by the range of its argument and by the states that it accepts. -/
theorem stationCommands : Obligations.StationCommands := by
  refine ⟨fun arg a s hs => ⟨fun hrange => ⟨?_, ?_⟩, fun harg h1 h62 => ⟨fun hstate => ?_, fun hstate => ?_,
    fun hstate => ?_, fun hstate => ?_⟩⟩, fun arg a s hs => ⟨fun hrange => ?_, fun hrange => ?_, fun hzero => ?_,
    fun harg h1 h62 => ⟨?_, ?_⟩⟩⟩
  · exact exec_badArgument (exec_admit hs arg) hrange
  · exact exec_badArgument (exec_bar hs arg) hrange
  · exact exec_badState (exec_admit hs arg) harg h1 h62 (decide_eq_false hstate)
  · exact exec_acts (exec_admit hs arg) harg h1 h62 (decide_eq_true hstate)
  · exact exec_badState (exec_bar hs arg) harg h1 h62 (not_mayBeBarred hstate)
  · exact exec_acts (exec_bar hs arg) harg h1 h62 (mayBeBarred hstate)
  · exact exec_badArgument (exec_forget hs arg) hrange
  · have hne : arg ≠ 0 := by
      rintro rfl
      simp at hrange
    exact exec_badArgument (exec_clearSticky_one hs arg hne) (.inr hrange)
  · subst hzero
    exact exec_clearSticky_all_fields hs
  · exact exec_acts (exec_forget hs arg) harg h1 h62 rfl
  · have hne : arg ≠ 0 := by
      rintro rfl
      simp [← harg] at h1
    exact exec_acts (exec_clearSticky_one hs arg hne) harg h1 h62 rfl

end Sys2Proof.Machine.StationTable
end

section
namespace Sys2Proof.Machine.StationTable
open TheCycle

/-! ### Writes of the station registers (R86, R87, R192) -/

/-- A register write that may set WRITE_CLAMPED, as the host's registers show it (R192, R193). -/
theorem clampedIf_host (s : State) (changed : Bool) : (s.clampedIf changed).host =
    { s.host with windowStatus := if changed then s.host.windowStatus ||| 2 else s.host.windowStatus } := by
  cases changed <;> rfl

/-- A field is clamped exactly when it lies outside its range (R192). -/
theorem clampField_changed {least greatest : Nat} (h : least ≤ greatest) (v : Nat) :
    (clampField least greatest v).2 = true ↔ v < least ∨ greatest < v := by
  simp only [clampField, bne_iff_ne]
  omega

/-- A field of a word's low bits. -/
theorem fieldOf_low (w : Word) (len : Nat) : fieldOf w 0 len = w.toNat % 2 ^ len := by
  simp [fieldOf, BitVec.extractLsb'_toNat]

theorem exec_stationSelectWrite {s : State} (hs : s.engine ≠ .init) (data : Word) :
    exec (.stationSelectWrite data) s = .next (State.clampedIf
      { s with stationSelect := BitVec.ofNat 6 (clampField 1 62 (fieldOf data 0 8)).1 }
      (clampField 1 62 (fieldOf data 0 8)).2) := by
  change execStationSelectWrite data s = _
  rw [execStationSelectWrite, State.hostAccess_taken hs]

theorem exec_stationConfigWrite {s : State} (hs : s.engine ≠ .init) (data : Word) :
    exec (.stationConfigWrite data) s = .next ((s.setStation s.stationSelect
      { s.station s.stationSelect with
        window := (clampField 16 1023 (fieldOf data 0 11)).1
        alertMask := data.extractLsb' 16 10, search := data.getLsbD 31 }).clampedIf
      (clampField 16 1023 (fieldOf data 0 11)).2) := by
  change execStationConfigWrite data s = _
  rw [execStationConfigWrite, State.hostAccess_taken hs]

/-- STATION_SELECT takes the nearest of 1 to 62 (R86). -/
theorem stationSelectWrite_fields {s : State} (hs : s.engine ≠ .init) (data : Word) :
    ∃ t, exec (.stationSelectWrite data) s = .next t
      ∧ t.stationSelect.toNat = max 1 (min (data.toNat % 256) 62)
      ∧ t.host = { s.host with windowStatus :=
          if data.toNat % 256 = 0 ∨ 62 < data.toNat % 256 then s.host.windowStatus ||| 2
          else s.host.windowStatus }
      ∧ { t with stationSelect := s.stationSelect, host := s.host } = s := by
  refine ⟨_, exec_stationSelectWrite hs data, ?_, ?_, by simp⟩
  · simp only [State.clampedIf_frame, fieldOf_low, clampField, BitVec.toNat_ofNat]
    omega
  · simp only [clampedIf_host, clampField_changed (by decide : 1 ≤ 62), fieldOf_low, Nat.lt_one_iff, Nat.reducePow]

/-- STATION_CONFIG writes the window, the alert mask and the search flag of the selected record (R87). -/
theorem stationConfigWrite_fields {s : State} (hs : s.engine ≠ .init) (data : Word) {window : Nat}
    (hwindow : window = data.toNat % 2048) (h1 : 1 ≤ s.stationSelect.toNat) (h62 : s.stationSelect.toNat ≤ 62) :
    ∃ t, exec (.stationConfigWrite data) s = .next t
      ∧ t.station s.stationSelect = { s.station s.stationSelect with
          window := max 16 (min window 1023), alertMask := data.extractLsb' 16 10
          search := data.getLsbD 31 }
      ∧ (∀ a, a ≠ s.stationSelect → t.station a = s.station a)
      ∧ t.host = { s.host with windowStatus :=
          if window < 16 ∨ 1023 < window then s.host.windowStatus ||| 2 else s.host.windowStatus }
      ∧ { t with stations := s.stations, host := s.host } = s := by
  have hfield : fieldOf data 0 11 = window := (fieldOf_low data 11).trans hwindow.symm
  have hrecord (v : State) (changed : Bool) (b : Address) : (v.clampedIf changed).station b = v.station b :=
    State.station_congr (by simp) b
  refine ⟨_, exec_stationConfigWrite hs data, ?_, fun a ha => ?_, ?_, by simp⟩ <;> rw [hfield]
  · rw [hrecord, State.station_setStation, if_pos ⟨rfl, h1, h62⟩]
    rfl
  · rw [hrecord, station_setStation_other s ha]
  · simp only [clampedIf_host, clampField_changed (by decide : 16 ≤ 1023), State.setStation_frame]

/-- Settles O59: the two writes clamp and store their fields, and the rest stands. -/
theorem stationRegisterWrites : Obligations.StationRegisterWrites := by
  refine ⟨fun s a => ⟨fun i hi => ?_, fun ha => ?_⟩, fun x => ⟨fun hx => ?_, fun id hx => ?_⟩,
    fun s data window hs hwindow => ⟨stationSelectWrite_fields hs data, stationConfigWrite_fields hs data hwindow⟩⟩
  · have hlt := i.isLt
    obtain rfl : a = addressAt i := by
      apply BitVec.eq_of_toNat_eq
      simp only [addressAt, BitVec.toNat_ofNat]
      omega
    exact station_addressAt s i
  · rcases ha with rfl | rfl <;> rfl
  · simp [Station.maxPayload, hx]
  · simp [Station.maxPayload, hx]

end Sys2Proof.Machine.StationTable
end

section
namespace Sys2Proof.Machine.StationTable
open TheCycle

/-! ### A write of MISS_LIMIT (R78, R192) -/

/-- A state with another miss limit, Station Table and WINDOW_STATUS: the fields that a write of MISS_LIMIT changes
beside its posts. -/
def limitWritten (s : State) (limit : Nat) (records : Vector Station 62) (status : BitVec 3) : State :=
  { s with
    settings := { s.settings with missLimit := limit }, stations := records
    host := { s.host with windowStatus := status } }

/-- The STATION entry of a station that enters LOST in a cycle (R77, R163). -/
def lostEntry (number : BitVec 16) (i : Fin 62) : Entry :=
  { Entry.blank .station 3 number with station := addressAt i }

/-- The record of a station that has entered LOST (R77). -/
def lost (r : Station) : Station := { r with state := .lost, missCount := 0 }

/-- Whether a record is SUSPECT with a miss count at or above a limit (R78). -/
def atLimit (limit : Nat) (r : Station) : Bool := r.state = .suspect && decide (limit ≤ r.missCount)

theorem recordIndex?_addressAt (i : Fin 62) : recordIndex? (addressAt i) = some i := by
  have hlt := i.isLt
  have hn : (addressAt i).toNat = i.val + 1 := by
    simp only [addressAt, BitVec.toNat_ofNat]
    omega
  rw [recordIndex?_station (by omega) (by omega)]
  simp [hn]

/-- A post reads none of the fields that the write changes. -/
theorem limitWritten_post (s : State) (limit : Nat) (records : Vector Station 62) (status : BitVec 3) (e : Entry) :
    (limitWritten s limit records status).post e = limitWritten (s.post e) limit records status := by
  unfold State.post State.queueFull limitWritten
  dsimp only
  split
  · rfl
  · split <;> rfl

/-- A station enters LOST: its record is replaced, and its entry posted (R77). -/
theorem limitWritten_enterLost (s : State) (limit : Nat) (records : Vector Station 62) (status : BitVec 3)
    (i : Fin 62) :
    (limitWritten s limit records status).enterLost (addressAt i) =
      limitWritten (s.post (lostEntry s.cycle.number i)) limit (records.set i (lost records[i])) status := by
  have hrecord : (limitWritten s limit records status).station (addressAt i) = records[i] := station_addressAt _ i
  have hset (r : Station) : (limitWritten s limit records status).setStation (addressAt i) r =
      limitWritten s limit (records.set i r) status := by
    simp only [State.setStation, recordIndex?_addressAt]
    rfl
  rw [State.enterLost, hrecord, hset]
  exact limitWritten_post ..

/-- One station of the write's pass: LOST if it is SUSPECT at or above the limit in force (R78). -/
def loseIfAtLimit (t : State) (i : Fin 62) : State :=
  if atLimit t.settings.missLimit t.stations[i] then t.enterLost (addressAt i) else t

theorem loseAtLimit_eq (s : State) : s.loseAtLimit = (List.finRange 62).foldl loseIfAtLimit s := rfl

theorem limitWritten_loseIfAtLimit (s : State) (limit : Nat) (records : Vector Station 62) (status : BitVec 3)
    (i : Fin 62) :
    loseIfAtLimit (limitWritten s limit records status) i =
      if atLimit limit records[i] then
        limitWritten (s.post (lostEntry s.cycle.number i)) limit (records.set i (lost records[i])) status
      else limitWritten s limit records status := by
  rw [← limitWritten_enterLost]
  rfl

/-- Replacing a record leaves the records at the other places. -/
theorem set_other (records : Vector Station 62) {i j : Fin 62} (h : i ≠ j) (r : Station) :
    (records.set j r)[i] = records[i] := by
  have hne : j.val ≠ i.val := fun hval => h (Fin.ext hval.symm)
  simp [hne]

/-- The pass over stations each taken once: those at the limit at its start are LOST, with their entries posted in
the order of the pass (R78). -/
theorem limitWritten_pass (limit : Nat) (status : BitVec 3) {stations : List (Fin 62)} (hnodup : stations.Nodup)
    (s : State) (records : Vector Station 62) :
    ∃ after : Vector Station 62,
      (∀ i : Fin 62, after[i] = if i ∈ stations ∧ atLimit limit records[i] then lost records[i] else records[i])
        ∧ stations.foldl loseIfAtLimit (limitWritten s limit records status) =
          limitWritten ((stations.filter fun i => atLimit limit records[i]).foldl
            (fun u i => u.post (lostEntry s.cycle.number i)) s) limit after status := by
  induction stations generalizing s records with
  | nil => exact ⟨records, by simp, rfl⟩
  | cons j rest ih =>
    obtain ⟨hj, hrest⟩ := List.nodup_cons.mp hnodup
    rw [List.foldl_cons, limitWritten_loseIfAtLimit]
    cases hat : atLimit limit records[j] with
    | true =>
      obtain ⟨after, hafter, hpass⟩ := ih hrest (s.post (lostEntry s.cycle.number j))
        (records.set j (lost records[j]))
      have hself : (records.set j (lost records[j]))[j] = lost records[j] := by simp
      have hsame : rest.filter (fun i => atLimit limit (records.set j (lost records[j]))[i])
          = rest.filter fun i => atLimit limit records[i] :=
        List.filter_congr fun i hi => by rw [set_other records (ne_of_mem_of_not_mem hi hj)]
      refine ⟨after, fun i => ?_, ?_⟩
      · rw [hafter]
        by_cases hi : i = j
        · subst hi
          simp only [hj, false_and, if_false, hself, List.mem_cons_self, true_and, hat, if_true]
        · simp only [set_other records hi, List.mem_cons, hi, false_or]
      · rw [if_pos rfl, hpass, hsame,
          List.filter_cons_of_pos (p := fun i => atLimit limit records[i]) hat, List.foldl_cons]
        simp
    | false =>
      obtain ⟨after, hafter, hpass⟩ := ih hrest s records
      refine ⟨after, fun i => ?_, ?_⟩
      · rw [hafter]
        by_cases hi : i = j
        · subst hi
          simp only [hj, if_false, hat, Bool.false_eq_true, and_false]
        · simp only [List.mem_cons, hi, false_or]
      · rw [if_neg (by simp), hpass, List.filter_cons_of_neg
          (p := fun i => atLimit limit records[i]) (Bool.eq_false_iff.mp hat)]

/-- Posts change the queue and the flags alone (R165, R168). -/
theorem posts_keep (number : BitVec 16) (l : List (Fin 62)) (s : State) :
    { l.foldl (fun u i => u.post (lostEntry number i)) s with queue := s.queue, host := s.host } = s := by
  induction l generalizing s with
  | nil => rfl
  | cons i rest ih =>
    have hpost : { s.post (lostEntry number i) with queue := s.queue, host := s.host } = s := by simp
    rw [← ih (s.post (lostEntry number i))] at hpost
    exact hpost

/-- WINDOW_STATUS after a write of MISS_LIMIT (R192, R193). -/
def limitStatus (s : State) (data : Word) : BitVec 3 :=
  if data.toNat % 8 = 0 then s.host.windowStatus ||| 2 else s.host.windowStatus

/-- The limit is in force, and WRITE_CLAMPED shown, when the pass over the 62 stations begins (R78, R192). -/
theorem exec_missLimitWrite {s : State} (hs : s.engine ≠ .init) {data : Word} {limit : Nat}
    (hlimit : limit = max 1 (data.toNat % 8)) :
    exec (.missLimitWrite data) s =
      .next ((List.finRange 62).foldl loseIfAtLimit (limitWritten s limit s.stations (limitStatus s data))) := by
  have hstored : (clampField 1 7 (fieldOf data 0 3)).1 = limit := by
    rw [fieldOf_low, hlimit]
    simp only [clampField]
    omega
  have hchanged : (clampField 1 7 (fieldOf data 0 3)).2 = true ↔ data.toNat % 8 = 0 := by
    rw [clampField_changed (by decide), fieldOf_low]
    omega
  have hwritten : State.clampedIf
      { s with settings := { s.settings with missLimit := (clampField 1 7 (fieldOf data 0 3)).1 } }
      (clampField 1 7 (fieldOf data 0 3)).2 = limitWritten s limit s.stations (limitStatus s data) := by
    rw [hstored, limitStatus, ← if_congr hchanged rfl rfl]
    cases (clampField 1 7 (fieldOf data 0 3)).2 <;> rfl
  change execMissLimitWrite data s = _
  rw [execMissLimitWrite, State.hostAccess_taken hs, ← loseAtLimit_eq]
  exact congrArg (fun u : State => Host.Outcome.next u.loseAtLimit) hwritten

/-- Settles O57: the stations at the limit as it is written are LOST, and their entries posted, in one pass. -/
theorem missLimitWriteLosesStations : Obligations.MissLimitWriteLosesStations := by
  intro s data limit hs hlimit
  obtain ⟨after, hafter, hpass⟩ := limitWritten_pass limit (limitStatus s data) (List.nodup_finRange 62) s s.stations
  have hkeeps := posts_keep s.cycle.number ((List.finRange 62).filter fun i => atLimit limit s.stations[i]) s
  have htest (i : Fin 62) : atLimit limit s.stations[i] = decide
      ((s.stations[i]).state = .suspect ∧ limit ≤ (s.stations[i]).missCount) := by
    rw [atLimit, Bool.decide_and]
  refine ⟨_, (exec_missLimitWrite hs hlimit).trans (congrArg _ hpass), ?_, fun i => ?_, fun posted hposted => ?_, ?_⟩
  · exact congrArg (fun u : State => { u.settings with missLimit := limit }) hkeeps
  · refine (hafter i).trans (if_congr ?_ rfl rfl)
    rw [htest, decide_eq_true_iff]
    simp only [List.mem_finRange, true_and]
  · simp only [← htest] at hposted
    rw [hposted]
    exact ⟨rfl, rfl⟩
  · exact congrArg (fun u : State => { u with settings := s.settings, stations := s.stations }) hkeeps

end Sys2Proof.Machine.StationTable
end

section
namespace Sys2Proof.Machine.StationTable

/-! ### RESET and INIT (R176) -/

/-- RESET_RELEASED under RESET clears the RESET input (R176). -/
theorem exec_resetReleased {s : State} (h : s.resetAsserted = true) :
    exec .resetReleased s = .next { s with resetAsserted := false } := by
  change execResetReleased s = _
  rw [execResetReleased, if_pos h]

/-- INIT ends with the exchange memory and both pages cleared, and the engine in HALTED (R176). -/
theorem exec_initClearingFinished {s : State} (hinit : s.engine = .init) (h : s.resetAsserted = false) :
    exec .initClearingFinished s = .next { s with
      engine := .halted
      exmem := []
      schedule := { s.schedule with
        page0 := Vector.replicate 32 .reset, page1 := Vector.replicate 32 .reset } } := by
  change execInitClearingFinished s = _
  rw [execInitClearingFinished, if_pos (by simp [hinit, h])]

/-- Settles O14: the reset values are those of the definitions, and each of the three commands is one record update. -/
theorem hardwareResetAndInit : Obligations.HardwareResetAndInit := by
  refine ⟨rfl, rfl, rfl, rfl, rfl, rfl, fun s => rfl, fun s _ h => exec_resetReleased h, fun s hinit h => ?_⟩
  exact ⟨_, exec_initClearingFinished hinit h, rfl, fun a => rfl, fun i => by simp, rfl, rfl⟩

end Sys2Proof.Machine.StationTable
end

section
namespace Sys2Proof.Machine.StationTable
open TheCycle

/-! ### What the ranges read of a state (R86, R107, R112, R191, R192) -/

/-- The configuration registers, the counts and the selectors whose ranges `State.countsInRange` and
`Settings.inRange` give, with each ring's BASE and LENGTH. -/
structure Registers where
  settings : Settings
  clock : Nat
  lateMarks : Nat
  rollPointer : Address
  stationSelect : Address
  exmemAddr : BitVec 12
  baseU : Word
  lengthU : Nat
  baseN : Word
  lengthN : Nat

/-- The registers of a state. -/
def registers (s : State) : Registers :=
  { settings := s.settings, clock := s.cycle.clock, lateMarks := s.cycle.lateMarks
    rollPointer := s.cycle.rollPointer, stationSelect := s.stationSelect, exmemAddr := s.exmemAddr
    baseU := s.ringU.base, lengthU := s.ringU.length, baseN := s.ringN.base, lengthN := s.ringN.length }

/-- The registers hold values of their ranges. -/
structure Registers.InRange (x : Registers) : Prop where
  settings : x.settings.inRange
  clock : x.clock ≤ 2097151
  lateMarks : x.lateMarks ≤ 65535
  rollPointer : 1 ≤ x.rollPointer.toNat ∧ x.rollPointer.toNat ≤ 62
  stationSelect : 1 ≤ x.stationSelect.toNat ∧ x.stationSelect.toNat ≤ 62
  exmemAddr : x.exmemAddr.toNat % 4 = 0
  ringU : x.baseU.toNat % 32 = 0 ∧ x.lengthU ≤ 511
  ringN : x.baseN.toNat % 32 = 0 ∧ x.lengthN ≤ 511

/-- The registers are in range and the station records are consistent. -/
structure InRange (s : State) : Prop where
  registers : (registers s).InRange
  stations : s.stationsConsistent

theorem inRange_iff (s : State) :
    InRange s ↔ s.settings.inRange ∧ s.countsInRange ∧ s.stationsConsistent := by
  constructor
  · rintro ⟨⟨h1, h2, h3, h4, h5, h6, h7, h8⟩, h9⟩
    exact ⟨h1, ⟨h2, h3, h4, h5, h6, h7, h8⟩, h9⟩
  · rintro ⟨h1, ⟨h2, h3, h4, h5, h6, h7, h8⟩, h9⟩
    exact ⟨⟨h1, h2, h3, h4, h5, h6, h7, h8⟩, h9⟩

/-- A change that leaves every register and keeps the station records consistent. -/
structure Keeps (t s : State) : Prop where
  registers : registers t = registers s
  stations : s.stationsConsistent → t.stationsConsistent

theorem Keeps.inRange {t s : State} (h : Keeps t s) (hs : InRange s) : InRange t :=
  ⟨h.registers ▸ hs.registers, h.stations hs.stations⟩

theorem Keeps.trans {t v s : State} (h : Keeps t v) (h' : Keeps v s) : Keeps t s :=
  ⟨h.registers.trans h'.registers, h.stations ∘ h'.stations⟩

/-- A change outside the registers and the Station Table. -/
theorem keeps_of_frame {t s : State} (h : StationTable.registers t = StationTable.registers s)
    (hstations : t.stations = s.stations) : Keeps t s := by
  have hsettings : t.settings = s.settings := (congrArg Registers.settings h :)
  exact ⟨h, fun hs => by rwa [State.stationsConsistent, hstations, hsettings]⟩

theorem Keeps.refl (s : State) : Keeps s s := keeps_of_frame rfl rfl

/-- A register changes, with no change of the miss limit and the Station Table. -/
theorem InRange.write {t s : State} (hs : InRange s) (h : (StationTable.registers t).InRange)
    (hlimit : t.settings.missLimit = s.settings.missLimit) (hstations : t.stations = s.stations) : InRange t := by
  refine ⟨h, ?_⟩
  rw [State.stationsConsistent, hstations, hlimit]
  exact hs.stations

/-! ### Station records (R65, R75 to R77, R151) -/

theorem reset_consistent (limit : Nat) : Station.reset.consistent limit := by
  simp [Station.consistent, Station.reset, Station.maxPayload]

/-- Every address shows a consistent record, those without one of their own included (R65). -/
theorem station_consistent {s : State} (hs : s.stationsConsistent) (a : Address) :
    (s.station a).consistent s.settings.missLimit := by
  unfold State.station
  split
  · exact hs _
  · exact reset_consistent _

theorem setStation_consistent {s : State} {r : Station} (hs : s.stationsConsistent)
    (hr : r.consistent s.settings.missLimit) (a : Address) : (s.setStation a r).stationsConsistent := by
  intro i
  have hsettings : (s.setStation a r).settings = s.settings := by simp
  rw [← station_addressAt, State.station_setStation, hsettings]
  split
  · exact hr
  · exact station_consistent hs _

/-- A record is replaced by one that is consistent where the one before was. -/
theorem keeps_setStation {s : State} {a : Address} {r : Station}
    (hr : (s.station a).consistent s.settings.missLimit → r.consistent s.settings.missLimit) :
    Keeps (s.setStation a r) s :=
  ⟨by simp [registers], fun hs => setStation_consistent hs (hr (station_consistent hs a)) a⟩

theorem keeps_raise (s : State) (f : IntFlag) : Keeps (s.raise f) s := keeps_of_frame (by simp [registers]) (by simp)

theorem keeps_misuse (s : State) (m : Misuse) : Keeps (s.misuse m) s := keeps_of_frame (by simp [registers]) (by simp)

theorem keeps_post (s : State) (e : Entry) : Keeps (s.post e) s := keeps_of_frame (by simp [registers]) (by simp)

theorem keeps_postStation (s : State) (a : Address) (code : BitVec 5) (d : Bool) :
    Keeps (s.postStation a code d) s := keeps_post ..

theorem keeps_setDecision (s : State) (code arg : Byte) (d : Decision) (k : BitVec 4) (i : Byte) :
    Keeps (s.setDecision code arg d k i) s := keeps_of_frame (by simp [registers]) (by simp)

/-- A record with another state keeps its identity, and so leaves ABSENT out; with miss count 0 it is not SUSPECT
(R65, R76). -/
theorem consistent_moved {limit : Nat} {r : Station} (h : r.consistent limit) (hr : r.state ≠ .absent)
    {state : StationState} (hstate : state ≠ .absent) (hsuspect : state ≠ .suspect) :
    Station.consistent limit { r with state := state, missCount := 0 } := by
  obtain ⟨hidentity, hpayload, -, -, hwindow⟩ := h
  exact ⟨iff_of_false (mt hidentity.mp hr) hstate, hpayload, iff_of_false (by simp) hsuspect,
    fun h => absurd h hsuspect, hwindow⟩

theorem keeps_enterLost {s : State} {a : Address} (h : (s.station a).state ≠ .absent) : Keeps (s.enterLost a) s :=
  (keeps_postStation ..).trans (keeps_setStation fun hr => consistent_moved hr h (by simp) (by simp))

theorem inService_ne_absent {x : StationState} (h : x.inService = true) : x ≠ .absent := by
  rintro rfl
  cases h

theorem keeps_supervise (s : State) (a : Address) (answered : Bool) : Keeps (s.supervise a answered) s := by
  unfold State.supervise
  dsimp only
  split
  · exact .refl s
  · rename_i hservice
    have hstate := inService_ne_absent (by simpa using hservice)
    split
    · exact keeps_setStation fun hr => consistent_moved hr hstate (by simp) (by simp)
    · split
      · exact keeps_enterLost hstate
      · rename_i hlimit
        refine keeps_setStation fun ⟨hidentity, hpayload, _, _, hwindow⟩ => ?_
        exact ⟨iff_of_false (mt hidentity.mp hstate) (by simp), hpayload, by simp,
          fun _ => not_le.mp hlimit, hwindow⟩

theorem keeps_addSticky (s : State) (a : Address) (k : KindSet) : Keeps (s.addSticky a k) s := keeps_setStation id

theorem keeps_alert (s : State) (e : Entry) : Keeps (s.alert e) s := by
  unfold State.alert
  split
  · exact (keeps_addSticky ..).trans (keeps_post ..)
  · exact (keeps_raise ..).trans (keeps_post ..)

theorem keeps_account (s : State) (a : Address) (k : KindSet) (e : Entry) : Keeps (s.account a k e) s := by
  unfold State.account
  split
  · exact .refl s
  · refine (keeps_addSticky ..).trans ?_
    split
    · exact .refl s
    · exact keeps_alert ..

/-! ### Rings (R112) -/

/-- A ring moves on with its BASE and LENGTH. -/
theorem keeps_setRing {s : State} {r : Ring} {x : RingUnit} (hbase : x.base = (s.ringUnit r).base)
    (hlength : x.length = (s.ringUnit r).length) : Keeps (s.setRing r x) s := by
  refine keeps_of_frame ?_ (by simp)
  cases r <;> simp [registers, State.setRing, hbase, hlength, State.ringUnit]

theorem keeps_issue (s : State) (q : Request) : Keeps (s.issue q) s := keeps_of_frame (by simp [registers]) (by simp)

theorem keeps_tryFetch (s : State) (r : Ring) : Keeps (s.tryFetch r) s := by
  unfold State.tryFetch
  split
  · exact (keeps_issue ..).trans (keeps_setRing rfl rfl)
  · exact .refl s

theorem keeps_completeRecord (s : State) (r : Ring) (record : RingRecord) (result : Result) (reply : Option Reply) :
    Keeps (s.completeRecord r record result reply) s := by
  have hreply (v : State) : Keeps (v.issueReply r record reply) v := keeps_of_frame (by simp [registers]) (by simp)
  exact (keeps_issue ..).trans ((hreply _).trans (keeps_setRing rfl rfl))

theorem keeps_selectionPoint (s : State) : Keeps s.selectionPoint s := keeps_of_frame (by simp [registers]) (by simp)

theorem keeps_stageRecord (s : State) (r : Ring) (record : RingRecord) : Keeps (s.stageRecord r record) s := by
  unfold State.stageRecord
  split
  · exact keeps_completeRecord ..
  · dsimp only
    split
    · exact (keeps_selectionPoint _).trans (keeps_setRing rfl rfl)
    · exact keeps_setRing rfl rfl

theorem keeps_haltRing (s : State) (r : Ring) (reason : HaltReason) (i : Byte) (failed : Option RingRecord) :
    Keeps (s.haltRing r reason i failed) s :=
  (keeps_post ..).trans ((keeps_raise ..).trans (keeps_setRing rfl rfl))

theorem keeps_takeRecord (s : State) (r : Ring) (w0 w1 w2 w3 : Word) : Keeps (s.takeRecord r w0 w1 w2 w3) s := by
  unfold State.takeRecord
  dsimp only
  refine Keeps.trans ?_ (keeps_setRing (r := r) (x := { s.ringUnit r with
    head := ((s.ringUnit r).head + 1) % (s.ringUnit r).length, pending := (s.ringUnit r).pending - 1
    current := some (recordOfWords (BitVec.ofNat 8 (s.ringUnit r).head) w0 w1 w2 w3) }) rfl rfl)
  split
  · exact keeps_completeRecord ..
  · split
    · exact keeps_stageRecord ..
    · exact (keeps_issue ..).trans (keeps_setRing rfl rfl)

theorem keeps_takeOutcome (s : State) (q : Request) (ok : Bool) : Keeps (s.takeOutcome q ok) s := by
  unfold State.takeOutcome
  split
  · unfold State.recordReadDone
    split
    · exact keeps_haltRing ..
    · split
      · exact keeps_haltRing ..
      · exact keeps_takeRecord ..
  · unfold State.dataReadDone
    split
    · exact .refl s
    · split
      · exact keeps_stageRecord ..
      · exact keeps_completeRecord ..
  · unfold State.dataWriteDone
    dsimp only
    split
    · exact .refl s
    · split
      · exact .refl s
      · exact keeps_setRing rfl rfl
  · unfold State.statusWriteDone
    dsimp only
    split
    · exact .refl s
    · split
      · split
        · exact keeps_setRing rfl rfl
        · split
          · exact (keeps_post ..).trans (keeps_setRing rfl rfl)
          · exact keeps_setRing rfl rfl
      · exact keeps_haltRing ..

theorem keeps_fetchAfter (s : State) (q : Request) : Keeps (s.fetchAfter q) s := by
  rcases State.fetchAfter_cases s q with ⟨-, h⟩ | ⟨-, r, h⟩ <;> rw [h]
  · exact keeps_tryFetch ..
  · exact (keeps_tryFetch ..).trans ((keeps_tryFetch ..).trans (keeps_of_frame rfl rfl))

theorem keeps_finishRequest (s : State) (q : Request) (rest : List Request) (ok : Bool) :
    Keeps (s.finishRequest q rest ok) s := by
  have hserve (v : State) : Keeps v.serve v := keeps_of_frame (by simp [registers]) (by simp)
  have hleft : Keeps { s with requests := rest } s := keeps_of_frame rfl rfl
  unfold State.finishRequest
  refine (hserve _).trans ?_
  split
  · exact (keeps_fetchAfter ..).trans hleft
  · exact (keeps_tryFetch ..).trans ((keeps_takeOutcome ..).trans hleft)

theorem keeps_transferAnswered (s : State) (success : Bool) (word : Word) :
    Keeps (s.transferAnswered success word) s := by
  unfold State.transferAnswered
  split
  · exact .refl s
  · split
    · exact .refl s
    · split
      · exact keeps_finishRequest ..
      · dsimp only
        split
        · exact keeps_finishRequest ..
        · exact keeps_of_frame rfl rfl

end Sys2Proof.Machine.StationTable
end

section
namespace Sys2Proof.Machine.StationTable
open TheCycle

/-! ### The Exchange Unit (R41, R50, R54, R57, R61, R62) -/

theorem keeps_takeTag (s : State) (e : Exchange) : Keeps (s.takeTag e).1 s := by
  unfold State.takeTag
  split
  · exact .refl s
  · dsimp only
    split
    · exact .refl s
    · exact keeps_setStation id

theorem keeps_beginTry (s : State) (e : Exchange) : Keeps (s.beginTry e) s :=
  Keeps.trans (v := (s.takeTag e).1) (keeps_of_frame (by simp [registers]) rfl) (keeps_takeTag s e)

theorem keeps_slotResult (s : State) (i : Fin 32) (result : Result) (causes : KindSet) (payload : List Byte) :
    Keeps (s.slotResult i result causes payload) s := keeps_of_frame (by simp [registers]) (by simp)

theorem keeps_accountExchange (s : State) (e : Exchange) : Keeps (s.accountExchange e) s := by
  unfold State.accountExchange
  split
  · exact .refl s
  · split
    · exact keeps_account ..
    · exact keeps_account ..
    · exact .refl s

theorem keeps_superviseExchange (s : State) (e : Exchange) : Keeps (s.superviseExchange e) s := by
  unfold State.superviseExchange
  split
  · exact keeps_supervise ..
  · exact .refl s

theorem keeps_sourceTakes (s : State) (e : Exchange) (result : Result) (reply : Option Reply) :
    Keeps (s.sourceTakes e result reply) s := by
  unfold State.sourceTakes
  split
  · exact keeps_slotResult ..
  · split
    · exact .refl s
    · split
      · exact .refl s
      · exact keeps_completeRecord ..
  · exact .refl s

theorem keeps_enterHalted (s : State) : Keeps s.enterHalted s := keeps_of_frame (by simp [registers]) (by simp)

theorem keeps_emptyContext (s : State) (source : Source) : Keeps (s.emptyContext source) s :=
  keeps_of_frame (by simp [registers]) (by simp)

theorem keeps_endExchange (s : State) (e : Exchange) (result : Result) (reply : Option Reply) :
    Keeps (s.endExchange e result reply) s :=
  (keeps_emptyContext ..).trans ((keeps_sourceTakes ..).trans
    ((keeps_accountExchange ..).trans (keeps_superviseExchange ..)))

theorem keeps_returnToStaging (s : State) (e : Exchange) : Keeps (s.returnToStaging e) s := by
  have hstay : Keeps ((s.superviseExchange e).accountExchange e) s :=
    (keeps_accountExchange ..).trans (keeps_superviseExchange ..)
  unfold State.returnToStaging
  refine (keeps_emptyContext ..).trans (Keeps.trans ?_ hstay)
  split
  · split
    · exact .refl _
    · exact keeps_setRing rfl rfl
  · exact .refl _
  · exact .refl _

theorem keeps_interrupt (s : State) (result : Result) : Keeps (s.interrupt result) s := by
  unfold State.interrupt
  split
  · exact .refl s
  · rename_i e _
    have htaken := (keeps_sourceTakes (s.accountExchange e) e result none).trans (keeps_accountExchange s e)
    exact ⟨htaken.registers, htaken.stations⟩

theorem keeps_concludeTry (s : State) (e : Exchange) (o : TryOutcome) (reply : Option Reply) :
    Keeps (s.concludeTry e o reply) s := by
  unfold State.concludeTry
  dsimp only
  split
  · exact keeps_of_frame rfl rfl
  · split
    · exact keeps_returnToStaging ..
    · exact keeps_endExchange ..

theorem keeps_takeExpiry (s : State) (e : Exchange) : Keeps (s.takeExpiry e) s := by
  unfold State.takeExpiry
  split
  · exact keeps_emptyContext ..
  · exact (keeps_concludeTry ..).trans (keeps_of_frame rfl rfl)

theorem keeps_enterLineFault (s : State) (code : BitVec 5) : Keeps (s.enterLineFault code) s := by
  have hdrop : Keeps { (s.interrupt .lineFault).dropCycleWork with engine := .lineFault } (s.interrupt .lineFault) :=
    keeps_of_frame rfl rfl
  exact (keeps_raise ..).trans ((keeps_post ..).trans (hdrop.trans (keeps_interrupt ..)))

/-! ### Roll calls (R60, R67 to R72) -/

/-- The max payload of an identity reply is held to 120 (R67). -/
theorem identityOf_maxPayload_le (payload : List Byte) : (identityOf payload).maxPayload ≤ 120 := Nat.min_le_right ..

/-- A record with an identity taken, in a state that is neither ABSENT nor SUSPECT (R69, R71). -/
theorem consistent_identified {limit : Nat} {r : Station} (h : r.consistent limit) {id : Identity}
    (hid : id.maxPayload ≤ 120) {state : StationState} (hstate : state ≠ .absent) (hsuspect : state ≠ .suspect) :
    Station.consistent limit { r with state := state, identity := some id, nextTag := 0, missCount := 0 } := by
  obtain ⟨-, -, -, -, hwindow⟩ := h
  exact ⟨by simp [hstate], hid, by simp [hsuspect], by simp [hsuspect], hwindow⟩

theorem keeps_takeIdentity (s : State) (a : Address) {id : Identity} (hid : id.maxPayload ≤ 120) :
    Keeps (s.takeIdentity a id) s := by
  have hjoin : Keeps (s.join a id) s :=
    (keeps_postStation ..).trans (keeps_setStation fun h => consistent_identified h hid (by simp) (by simp))
  have hrejoin : Keeps (s.rejoin a id) s :=
    (keeps_postStation ..).trans (keeps_setStation fun h => consistent_identified h hid (by simp) (by simp))
  unfold State.takeIdentity
  dsimp only
  split
  · exact hjoin
  · split
    · exact hrejoin
    · exact hjoin
  all_goals exact .refl s

theorem keeps_takeRollReply (s : State) (e : Exchange) (f : FrameReport) : Keeps (s.takeRollReply e f) s := by
  unfold State.takeRollReply
  split
  · exact keeps_takeIdentity s _ (identityOf_maxPayload_le _)
  · exact keeps_postStation ..

/-! ### The receiver (R14 to R20, R46 to R49) -/

theorem keeps_setReceiver (s : State) (x : Receiver) : Keeps (s.setReceiver x) s := keeps_of_frame rfl rfl

theorem keeps_syncArrival (s : State) : Keeps s.syncArrival s := by
  unfold State.syncArrival
  split
  · split <;> exact keeps_of_frame rfl rfl
  · exact keeps_of_frame rfl rfl

theorem keeps_frameAbandoned (s : State) : Keeps s.frameAbandoned s := by
  unfold State.frameAbandoned
  split
  · split
    · exact (keeps_emptyContext ..).trans (keeps_postStation ..)
    · exact keeps_concludeTry ..
  · exact keeps_of_frame rfl rfl

theorem keeps_frameEnd (s : State) (f : FrameReport) : Keeps (s.frameEnd f) s := by
  have hlate : Keeps { s with lateFrame := none } s := keeps_of_frame rfl rfl
  unfold State.frameEnd
  split
  · split
    · exact (keeps_emptyContext ..).trans (keeps_takeRollReply ..)
    · exact keeps_concludeTry ..
  · dsimp only
    split
    · split
      · exact (keeps_account ..).trans hlate
      · exact hlate
    · exact hlate

theorem keeps_abandonFrame (s : State) : Keeps s.abandonFrame s :=
  (keeps_frameAbandoned _).trans (keeps_setReceiver ..)

theorem keeps_takeFrameByte (s : State) (b : Byte) : Keeps (s.takeFrameByte b) s := by
  unfold State.takeFrameByte
  dsimp only
  split
  · exact keeps_setReceiver ..
  · split
    · exact keeps_setReceiver ..
    · split
      · split
        · exact (keeps_abandonFrame _).trans (keeps_setReceiver ..)
        · exact keeps_setReceiver ..
      · split
        · exact keeps_setReceiver ..
        · split
          · exact keeps_setReceiver ..
          · exact (keeps_frameEnd ..).trans (keeps_setReceiver ..)

theorem keeps_takeHeldExpiry (s : State) : Keeps s.takeHeldExpiry s := by
  unfold State.takeHeldExpiry
  split
  · split
    · exact keeps_takeExpiry ..
    · exact .refl s
  · exact .refl s

theorem keeps_receiveCell (s : State) (cell : Cell) : Keeps (s.receiveCell cell) s := by
  unfold State.receiveCell
  split
  · exact .refl s
  · split
    · split
      · exact (keeps_syncArrival _).trans (keeps_setReceiver ..)
      · exact keeps_takeHeldExpiry s
    · exact keeps_takeHeldExpiry s
    · exact keeps_takeFrameByte ..
    · exact keeps_abandonFrame s
    · exact keeps_takeHeldExpiry s

/-! ### Transmissions that end (R10, R11, R25, R26, R43, R58) -/

theorem keeps_walkFrom (s : State) (start : Nat) : Keeps (s.walkFrom start) s :=
  keeps_of_frame (by simp [registers]) (by simp)

theorem keeps_markCut (s : State) : Keeps s.markCut s := by
  unfold State.markCut
  dsimp only
  split
  · exact (keeps_enterLineFault ..).trans (keeps_of_frame rfl rfl)
  · split
    · exact keeps_of_frame rfl rfl
    · exact (keeps_enterHalted _).trans (keeps_of_frame rfl rfl)
    all_goals exact keeps_of_frame rfl rfl

theorem keeps_tryCut (s : State) : Keeps s.tryCut s := by
  unfold State.tryCut
  split
  · split
    · exact keeps_enterLineFault ..
    · exact .refl s
  · dsimp only
    split
    · exact (keeps_enterLineFault ..).trans (keeps_of_frame rfl rfl)
    · split
      · exact keeps_emptyContext ..
      · exact keeps_concludeTry ..

theorem keeps_markComplete (s : State) : Keeps s.markComplete s := by
  unfold State.markComplete
  dsimp only
  split
  · exact (keeps_walkFrom ..).trans (keeps_of_frame rfl rfl)
  · exact (keeps_enterHalted _).trans (keeps_of_frame rfl rfl)
  all_goals exact keeps_of_frame rfl rfl

theorem keeps_tryComplete (s : State) : Keeps s.tryComplete s := by
  unfold State.tryComplete
  split
  · exact .refl s
  · split
    · exact keeps_endExchange ..
    · exact keeps_of_frame rfl rfl

/-! ### The walk and the selection (R31 to R36) -/

theorem keeps_closeWalk (s : State) : Keeps s.closeWalk s := by
  by_cases hopen : s.cycle.phase ≠ .cyclic ∨ s.cycle.walk = none
  · rw [closeWalk_finished hopen]
    exact .refl s
  · obtain ⟨hphase, hsome⟩ := not_or.mp hopen
    obtain ⟨w, hwalk⟩ := Option.ne_none_iff_exists'.mp hsome
    obtain ⟨hskipped, -⟩ := skipAll_keeps ((List.finRange 32).filter (leftOver s w)) s
    rw [closeWalk_unfinished (not_not.mp hphase) hwalk]
    exact keeps_of_frame (congrArg (fun u : State => registers { u with cycle := s.cycle }) hskipped :)
      (congrArg State.stations hskipped :)

theorem keeps_runSlot (s : State) (i : Fin 32) : Keeps (s.runSlot i) s := by
  unfold State.runSlot
  split
  · exact (keeps_walkFrom ..).trans (keeps_slotResult ..)
  · exact (keeps_beginTry ..).trans (keeps_of_frame rfl rfl)

theorem keeps_offer (s : State) (r : Ring) : Keeps (s.offer r).1 s := by
  unfold State.offer
  dsimp only
  split
  · split
    · exact keeps_completeRecord ..
    · split
      · exact (keeps_beginTry ..).trans (keeps_setRing rfl rfl)
      · exact .refl s
  · exact .refl s

/-- The targets of a roll call are the addresses 1 to 62 (R37). -/
theorem rollTarget_range {s : State} {a : Address} (h : s.rollTarget = some a) : 1 ≤ a.toNat ∧ a.toNat ≤ 62 := by
  unfold State.rollTarget at h
  obtain ⟨k, -, hk⟩ := List.exists_of_findSome?_eq_some h
  dsimp only at hk
  split at hk
  · obtain rfl := Option.some.inj hk
    simp only [BitVec.toNat_ofNat]
    omega
  · cases hk

/-- The roll-call pointer moves past the target, from 62 to 1 (R37). -/
theorem nextPointer_range {a : Address} (h : 1 ≤ a.toNat ∧ a.toNat ≤ 62) :
    1 ≤ (if a = 62 then 1 else a + 1 : Address).toNat ∧ (if a = 62 then 1 else a + 1 : Address).toNat ≤ 62 := by
  split
  · decide
  · rename_i hne
    have : a.toNat ≠ 62 := fun h62 => hne (BitVec.eq_of_toNat_eq h62)
    bv_omega

theorem considerRollCall_inRange {s : State} (hs : InRange s) : InRange s.considerRollCall := by
  unfold State.considerRollCall
  split
  · exact hs
  · split
    · exact hs
    · split
      · exact hs.write hs.registers rfl rfl
      · rename_i a htarget
        refine (keeps_beginTry ..).inRange (hs.write ?_ rfl rfl)
        exact { hs.registers with rollPointer := nextPointer_range (rollTarget_range htarget) }

theorem select_inRange {s : State} (hs : InRange s) : InRange s.select := by
  have hmade (order : Nat) : InRange (selectionMade s order) := hs.write hs.registers rfl rfl
  have hoffer {v : State} (hv : InRange v) (r : Ring) : InRange (v.offer r).1 := (keeps_offer v r).inRange hv
  by_cases hboth : ∀ r, s.offerCompletes r = true
  · obtain ⟨first, hselect⟩ := State.select_both hboth
    rw [hselect]
    exact considerRollCall_inRange (hoffer (hoffer (hmade _) first) _)
  · obtain ⟨r, hr⟩ := not_forall.mp hboth
    rw [select_in_order (by simpa using hr)]
    have hu := hoffer (hmade s.orderIndex) .u
    split
    · exact hu
    · split
      · exact hoffer hu .n
      · exact considerRollCall_inRange (hoffer hu .n)

/-! ### Time and the beginning of a mark (R21, R23, R24) -/

/-- The cycle clock stops at its greatest value (R21). -/
theorem elapse_inRange {s : State} (hs : InRange s) (k : Nat) : InRange (s.elapse k) := by
  have hclock : (s.elapse k).cycle.clock ≤ 2097151 := by
    have := hs.registers.clock
    rw [State.elapse_cycle]
    simp only [CycleUnit.ranOn]
    split
    · exact Nat.min_le_left ..
    · exact this
  refine hs.write ?_ (by simp) (by simp)
  have hregisters : registers (s.elapse k) = { registers s with clock := (s.elapse k).cycle.clock } := by
    simp [registers]
  rw [hregisters]
  exact { hs.registers with clock := hclock }

/-- A beginning mark restarts the clock and counts a late mark up to 65,535 (R21, R23). -/
theorem beginMark_inRange {s : State} (hs : InRange s) (w : MarkWant) : InRange (s.beginMark w) := by
  have hswap : InRange s.applyPendingSwap :=
    Keeps.inRange (keeps_of_frame (by simp [registers]) (by simp)) hs
  obtain ⟨host, hmarked⟩ := marked_fields s.applyPendingSwap
  rw [beginMark_eq s w _ rfl, hmarked]
  refine hswap.write ?_ rfl rfl
  refine { hswap.registers with clock := Nat.zero_le _, lateMarks := ?_ }
  have := hswap.registers.lateMarks
  simp only [registers, cycleOpened]
  split
  · exact Nat.min_le_left ..
  · exact this

end Sys2Proof.Machine.StationTable
end

section
namespace Sys2Proof.Machine.StationTable

/-! ### What a command leads to -/

/-- Every next state of an answer is in range. -/
def Stays (a : Answer) : Prop := ∀ t, a = .next t → InRange t

theorem stays_next {t : State} (h : InRange t) : Stays (.next t) := by
  intro u hu
  obtain rfl := Host.Outcome.next.inj hu
  exact h

theorem stays_refused (x : Refusal) : Stays (.refused x) := by
  intro u hu
  cases hu

section Commands
variable {s : State} (hs : InRange s)
include hs

theorem stays_keeps {t : State} (h : Keeps t s) : Stays (.next t) := stays_next (h.inRange hs)

theorem stays_hostAccess {effect : State → State} (h : InRange (effect s)) : Stays (s.hostAccess effect) := by
  unfold State.hostAccess
  split
  · exact stays_next hs
  · exact stays_next h

/-- A host access that leaves the registers and keeps the station records consistent. -/
theorem stays_keepingAccess {effect : State → State} (h : Keeps (effect s) s) : Stays (s.hostAccess effect) :=
  stays_hostAccess hs (h.inRange hs)

/-! ### The events of the line (R2, R10, R11, R17, R19) -/

omit hs in
theorem keeps_startBit (s : State) : Keeps s.startBit s := by
  unfold State.startBit
  split
  · exact keeps_of_frame rfl rfl
  · exact .refl s

theorem cellArrives_inRange (cell : Cell) : InRange (s.cellArrives cell) := by
  have hstart : InRange (if s.line.cell.isNone then s.startBit else s) := by
    split
    · exact (keeps_startBit s).inRange hs
    · exact hs
  unfold State.cellArrives
  generalize (if s.line.cell.isNone then s.startBit else s) = v at *
  dsimp only
  split
  · exact hstart
  · rename_i age _
    have hend : Keeps ((v.elapse (cellLeft age)).endCell cell) (v.elapse (cellLeft age)) := keeps_of_frame rfl rfl
    exact ((keeps_receiveCell _ cell).trans hend).inRange (elapse_inRange hstart _)

theorem cellArrival_stays (cell : Cell) : Stays (execCellArrival cell s) := by
  unfold execCellArrival
  split
  · exact stays_next hs
  · exact stays_next (cellArrives_inRange hs cell)

theorem gapLimitExpiry_stays : Stays (execGapLimitExpiry s) := by
  unfold execGapLimitExpiry
  split
  · exact stays_keeps (elapse_inRange hs _) (keeps_abandonFrame _)
  · exact stays_next hs

theorem lineQuiet_stays : Stays (execLineQuiet s) := by
  have hquiet (v : State) : Keeps v.becomeQuiet v := keeps_of_frame rfl rfl
  unfold execLineQuiet
  split
  · exact stays_keeps (elapse_inRange hs _) (hquiet _)
  · exact stays_next hs

theorem echoMismatch_stays : Stays (execEchoMismatch s) := by
  have hcut : Keeps s.cutByEcho s := keeps_of_frame rfl rfl
  unfold execEchoMismatch
  split
  · exact stays_next hs
  · split
    · exact stays_keeps hs ((keeps_markCut _).trans hcut)
    · exact stays_keeps hs ((keeps_tryCut _).trans hcut)

theorem transmissionComplete_stays : Stays (execTransmissionComplete s) := by
  have hdone (v : State) : Keeps v.txDone v := keeps_of_frame rfl rfl
  unfold execTransmissionComplete
  split
  · exact stays_next hs
  · split
    · exact stays_keeps (elapse_inRange hs _) ((keeps_markComplete _).trans (hdone _))
    · exact stays_keeps (elapse_inRange hs _) ((keeps_tryComplete _).trans (hdone _))

/-! ### The events of the cycle (R23, R24, R27, R31, R33) -/

theorem markDue_stays : Stays (execMarkDue s) := by
  have hwant (v : State) (w : Option MarkWant) : Keeps { v with cycle := { v.cycle with want := w, owed := false } } v :=
    keeps_of_frame rfl rfl
  unfold execMarkDue
  split
  · exact stays_keeps (elapse_inRange hs _) ((keeps_closeWalk _).trans (hwant _ _))
  · exact stays_next hs

theorem markBegin_stays : Stays (execMarkBegin s) := by
  unfold execMarkBegin
  split
  · exact stays_next hs
  · split
    · exact stays_next (beginMark_inRange hs _)
    · exact stays_next hs

theorem quietWaitLimit_stays : Stays (execQuietWaitLimit s) := by
  unfold execQuietWaitLimit
  split
  · exact stays_next hs
  · exact stays_keeps (elapse_inRange hs _) (keeps_enterLineFault ..)

theorem slotOpportunity_stays : Stays (execSlotOpportunity s) := by
  unfold execSlotOpportunity
  split
  · exact stays_next hs
  · split
    · split
      · exact stays_keeps hs (keeps_runSlot ..)
      · exact stays_keeps hs (keeps_walkFrom ..)
    · exact stays_next hs

theorem owedSelection_stays : Stays (execOwedSelection s) := by
  unfold execOwedSelection
  split
  · exact stays_next (select_inRange hs)
  · exact stays_next hs

/-! ### The events of the context and of the memory port (R42, R53, R138) -/

theorem windowExpiry_stays : Stays (execWindowExpiry s) := by
  unfold execWindowExpiry
  split
  · exact stays_next hs
  · dsimp only
    split
    · exact stays_next (elapse_inRange hs _)
    · exact stays_keeps (elapse_inRange hs _) (keeps_takeExpiry ..)

theorem retryOpportunity_stays : Stays (execRetryOpportunity s) := by
  unfold execRetryOpportunity
  split
  · exact stays_next hs
  · split
    · split
      · exact stays_keeps hs (keeps_beginTry ..)
      · exact stays_keeps hs (keeps_returnToStaging ..)
    · exact stays_next hs

theorem memoryTransferAnswer_stays (success : Bool) (word : Word) : Stays (execMemoryTransferAnswer success word s) :=
  stays_keeps hs (keeps_transferAnswered ..)

/-! ### The resets and INIT (R135, R176, R189) -/

omit hs in
theorem reset_stations_consistent {s : State} (h : s.stations = Vector.replicate 62 .reset) : s.stationsConsistent := by
  intro i
  have hi : s.stations[i] = .reset := by simp [h]
  rw [hi]
  exact reset_consistent _

omit hs in
theorem hardwareReset_stays : Stays (execHardwareReset s) := by
  refine stays_next ⟨?_, reset_stations_consistent rfl⟩
  constructor <;> simp [registers, State.reset, Settings.reset, Settings.inRange, CycleUnit.reset, RingUnit.reset]

theorem resetReleased_stays : Stays (execResetReleased s) := by
  unfold execResetReleased
  split
  · exact stays_next (hs.write hs.registers rfl rfl)
  · exact stays_next hs

theorem initClearingFinished_stays : Stays (execInitClearingFinished s) := by
  unfold execInitClearingFinished
  split
  · exact stays_next (hs.write hs.registers rfl rfl)
  · exact stays_next hs

theorem softReset_inRange (arg : Byte) : InRange (s.softReset arg) := by
  have hcut : InRange s.cutByEngine := (keeps_of_frame (by simp [registers]) (by simp)).inRange hs
  unfold State.softReset
  have hpointer : 1 ≤ (1 : Address).toNat ∧ (1 : Address).toNat ≤ 62 := by decide
  refine (keeps_setDecision ..).inRange ⟨?_, reset_stations_consistent rfl⟩
  exact { hcut.registers with
    clock := Nat.zero_le _, lateMarks := Nat.zero_le _, rollPointer := hpointer }

/-! ### Engine commands (R97, R180, R183, R185) -/

omit hs

theorem keeps_start (s : State) (arg : Byte) : Keeps (s.start arg) s := by
  unfold State.start
  split
  · exact keeps_setDecision ..
  · split
    · exact keeps_setDecision ..
    · split
      · exact keeps_setDecision ..
      · have hstarting (c : CycleUnit) (w : Option MarkWant) :
            Keeps { s with engine := .starting, cycle := { s.cycle with phase := .mark, want := w } } s :=
          keeps_of_frame rfl rfl
        exact (keeps_setDecision ..).trans (hstarting s.cycle _)

theorem keeps_leaveLineFault (s : State) : Keeps s.leaveLineFault s := by
  have hstreak : Keeps s.leaveLineFault s.enterHalted := keeps_of_frame rfl rfl
  exact hstreak.trans (keeps_enterHalted s)

theorem keeps_stop (s : State) (arg : Byte) : Keeps (s.stop arg) s := by
  have hstopping : Keeps { s.dropCycleWork with engine := .stopping } s := keeps_of_frame rfl rfl
  unfold State.stop
  split
  · split
    · exact (keeps_setDecision ..).trans hstopping
    · exact (keeps_setDecision ..).trans (keeps_enterHalted s)
  · exact (keeps_setDecision ..).trans (keeps_enterHalted s)
  · exact (keeps_setDecision ..).trans (keeps_leaveLineFault s)
  all_goals exact keeps_setDecision ..

theorem keeps_abort (s : State) (arg : Byte) : Keeps (s.abort arg) s := by
  have hcut : Keeps (s.cutByEngine.interrupt .aborted) s :=
    (keeps_interrupt ..).trans (keeps_of_frame (by simp [registers]) (by simp))
  have hhalted := (keeps_enterHalted _).trans hcut
  unfold State.abort
  split
  · exact (keeps_setDecision ..).trans hhalted
  · exact (keeps_setDecision ..).trans hhalted
  · exact (keeps_setDecision ..).trans hhalted
  · exact (keeps_setDecision ..).trans ((keeps_leaveLineFault _).trans hcut)
  all_goals exact keeps_setDecision ..

theorem keeps_swap (s : State) (arg : Byte) : Keeps (s.swap arg) s := by
  have happlied : Keeps s.applySwap s := keeps_of_frame (by simp [registers]) (by simp)
  have hpending : Keeps { s with schedule := { s.schedule with swapPending := true } } s := keeps_of_frame rfl rfl
  unfold State.swap
  split
  · exact keeps_setDecision ..
  · split
    · exact keeps_setDecision ..
    · split
      · exact (keeps_setDecision ..).trans happlied
      · exact (keeps_setDecision ..).trans hpending

/-! ### Station commands (R80 to R84) -/

theorem keeps_stationCommand (s : State) (code arg : Byte) {accepts : StationState → Bool} {act : Station → Station}
    (hact : ∀ limit r, accepts r.state = true → Station.consistent limit r → Station.consistent limit (act r)) :
    Keeps (s.stationCommand code arg accepts act) s := by
  unfold State.stationCommand
  split
  · exact keeps_setDecision ..
  · dsimp only
    split
    · rename_i haccepts
      exact (keeps_setDecision ..).trans (keeps_setStation (hact _ _ haccepts))
    · exact keeps_setDecision ..

/-- A record that FORGET empties is ABSENT, with no identity and no misses (R83). -/
theorem consistent_forgotten {limit : Nat} {r : Station} (h : r.consistent limit) : Station.consistent limit
    { r with state := .absent, identity := none, missCount := 0, nextTag := 0, sticky := 0 } := by
  obtain ⟨-, -, -, -, hwindow⟩ := h
  exact ⟨by simp, by simp [Station.maxPayload], by simp, by simp, hwindow⟩

include hs

theorem admit_stays (arg : Byte) : Stays (execAdmit arg s) := by
  refine stays_keepingAccess hs (keeps_stationCommand _ _ _ fun limit r haccepts h => ?_)
  have hjoining : r.state = .joining := of_decide_eq_true haccepts
  exact consistent_moved h (by simp [hjoining]) (by simp) (by simp)

theorem bar_stays (arg : Byte) : Stays (execBar arg s) := by
  refine stays_keepingAccess hs (keeps_stationCommand _ _ _ fun limit r haccepts h => ?_)
  have habsent : r.state ≠ .absent := by
    intro habsent
    simp [habsent, StationState.mayBeBarred] at haccepts
  exact consistent_moved h habsent (by simp) (by simp)

omit hs in
@[simp] theorem clearAllSticky_stations (s : State) (i : Fin 62) :
    s.clearAllSticky.stations[i] = { s.stations[i] with sticky := 0 } := by
  simp [State.clearAllSticky]

omit hs in
theorem keeps_clearAllSticky (s : State) : Keeps s.clearAllSticky s := by
  have hregisters : registers s.clearAllSticky = registers s := by simp only [registers, State.clearAllSticky]
  have hsettings : s.clearAllSticky.settings = s.settings := by simp only [State.clearAllSticky]
  refine ⟨hregisters, fun h i => ?_⟩
  rw [clearAllSticky_stations, hsettings]
  exact h i

theorem forget_stays (arg : Byte) : Stays (execForget arg s) :=
  stays_keepingAccess hs (keeps_stationCommand _ _ _ fun _ _ _ h => consistent_forgotten h)

theorem clearSticky_stays (arg : Byte) : Stays (execClearSticky arg s) := by
  refine stays_keepingAccess hs ?_
  split
  · exact (keeps_setDecision ..).trans (keeps_clearAllSticky s)
  · exact keeps_stationCommand _ _ _ fun _ _ _ h => h

/-! ### Ring commands and ring registers (R112, R116, R117, R131 to R133) -/

omit hs in
theorem keeps_ringCommand (s : State) (code arg : Byte) {effect : Ring → State} (h : ∀ r, Keeps (effect r) s) :
    Keeps (s.ringCommand code arg effect) s := by
  unfold State.ringCommand
  split
  · exact keeps_setDecision ..
  · exact h _

theorem ringEnable_stays (arg : Byte) : Stays (execRingEnable arg s) := by
  refine stays_keepingAccess hs (keeps_ringCommand _ _ _ fun r => ?_)
  unfold State.enableRing
  dsimp only
  split
  · exact keeps_setDecision ..
  · split
    · exact keeps_setDecision ..
    · exact (keeps_setDecision ..).trans ((keeps_tryFetch ..).trans (keeps_setRing rfl rfl))

theorem ringResume_stays (arg : Byte) : Stays (execRingResume arg s) := by
  refine stays_keepingAccess hs (keeps_ringCommand _ _ _ fun r => ?_)
  unfold State.resumeRing
  dsimp only
  split
  · exact keeps_setDecision ..
  · exact (keeps_setDecision ..).trans ((keeps_tryFetch ..).trans (keeps_setRing rfl rfl))

omit hs in
theorem keeps_orphan (s : State) (r : Ring) : Keeps (s.orphan r) s := by
  unfold State.orphan
  split
  · exact .refl s
  · split
    · exact .refl s
    · exact .refl s
    · split
      · dsimp only
        split
        · exact keeps_endExchange ..
        · exact keeps_of_frame rfl rfl
      · exact .refl s

theorem ringReset_stays (arg : Byte) : Stays (execRingReset arg s) := by
  refine stays_keepingAccess hs (keeps_ringCommand _ _ _ fun r => ?_)
  have hdropped (v : State) (l : List Request) : Keeps { v with requests := l } v := keeps_of_frame rfl rfl
  exact (keeps_setDecision ..).trans ((keeps_orphan ..).trans ((hdropped ..).trans (keeps_setRing rfl rfl)))

theorem post_stays (r : Ring) (data : Word) : Stays (execPost r data s) := by
  refine stays_keepingAccess hs ?_
  unfold State.postRecords
  dsimp only
  split
  · exact keeps_misuse ..
  · split
    · exact .refl s
    · split
      · exact keeps_setRing rfl rfl
      · exact (keeps_tryFetch ..).trans (keeps_setRing rfl rfl)

theorem ringStatusWrite_stays (r : Ring) (data : Word) : Stays (execRingStatusWrite r data s) := by
  refine stays_keepingAccess hs ?_
  split
  · exact keeps_setRing rfl rfl
  · exact .refl s

/-- A ring takes a BASE that is a multiple of 32 and a LENGTH of at most 511 (R112). -/
theorem setRing_inRange {r : Ring} {x : RingUnit} (hx : x.base.toNat % 32 = 0 ∧ x.length ≤ 511) :
    InRange (s.setRing r x) := by
  refine hs.write ?_ (by simp) (by simp)
  cases r with
  | u => exact { hs.registers with ringU := hx }
  | n => exact { hs.registers with ringN := hx }

theorem ringUnit_inRange (r : Ring) : (s.ringUnit r).base.toNat % 32 = 0 ∧ (s.ringUnit r).length ≤ 511 := by
  cases r with
  | u => exact hs.registers.ringU
  | n => exact hs.registers.ringN

theorem ringConfigWrite_stays (r : Ring) {change : RingUnit → RingUnit}
    (hchange : ∀ x, x.base.toNat % 32 = 0 ∧ x.length ≤ 511 →
      (change x).base.toNat % 32 = 0 ∧ (change x).length ≤ 511) :
    Stays (s.hostAccess (·.ringConfigWrite r change)) := by
  refine stays_hostAccess hs ?_
  unfold State.ringConfigWrite
  dsimp only
  split
  · exact setRing_inRange hs (hchange _ (ringUnit_inRange hs r))
  · exact (keeps_misuse ..).inRange hs

omit hs in
/-- A word with its low bits cleared is a multiple of their weight. -/
theorem toNat_and_not_mask (w k : Nat) (x : BitVec w) (hk : k < w) :
    (x &&& ~~~(BitVec.ofNat w (2 ^ k - 1))).toNat % 2 ^ k = 0 := by
  apply Nat.eq_of_testBit_eq
  intro i
  rw [Nat.testBit_mod_two_pow]
  by_cases hi : i < k
  · have hiw : i < w := by omega
    rw [BitVec.testBit_toNat, BitVec.getLsbD_and, BitVec.getLsbD_not, BitVec.getLsbD_ofNat,
      Nat.testBit_two_pow_sub_one]
    simp [hi, hiw]
  · simp [hi]

theorem baseWrite_stays (r : Ring) (data : Word) : Stays (execBaseWrite r data s) :=
  ringConfigWrite_stays hs r fun _ h => ⟨toNat_and_not_mask 32 5 data (by decide), h.2⟩

theorem lengthWrite_stays (r : Ring) (data : Word) : Stays (execLengthWrite r data s) :=
  ringConfigWrite_stays hs r fun _ h => ⟨h.1, Nat.le_of_lt_succ (data.extractLsb' 0 9).isLt⟩

end Commands

end Sys2Proof.Machine.StationTable
end

section
namespace Sys2Proof.Machine.StationTable

/-! ### Register writes (R86, R87, R107, R191, R192) -/

section Writes
variable {s : State} (hs : InRange s)
include hs

omit hs in
theorem keeps_clampedIf (s : State) (changed : Bool) : Keeps (s.clampedIf changed) s :=
  keeps_of_frame (by simp [registers]) (by simp)

/-- A write of settings in range with the miss limit as it is (R192). -/
theorem settings_inRange {x : Settings} (h : x.inRange) (hlimit : x.missLimit = s.settings.missLimit) :
    InRange { s with settings := x } :=
  hs.write { hs.registers with settings := h } hlimit rfl

theorem stays_haltedWrite {effect : State → State} (h : InRange (effect s)) :
    Stays (s.hostAccess (·.haltedWrite effect)) := by
  refine stays_hostAccess hs ?_
  unfold State.haltedWrite
  split
  · exact h
  · exact (keeps_misuse ..).inRange hs

theorem lineConfigWrite_stays (data : Word) : Stays (execLineConfigWrite data s) := by
  have hsettings : InRange { s with settings := { s.settings with
      bitRate := BitVec.ofNat 2 (clampField 0 3 (fieldOf data 0 3)).1 } } :=
    settings_inRange hs hs.registers.settings rfl
  have hline (v : State) : Keeps { v with line := { v.line with idleRun := 0 } } v := keeps_of_frame rfl rfl
  exact stays_haltedWrite hs ((keeps_clampedIf ..).inRange ((hline _).inRange hsettings))

theorem cyclePeriodWrite_stays (data : Word) : Stays (execCyclePeriodWrite data s) := by
  obtain ⟨-, hguard, hlimit, hinterval, hwindow, hthreshold⟩ := hs.registers.settings
  have hperiod := clampField_range (by decide : 2000 ≤ 1048575) (fieldOf data 0 20)
  exact stays_haltedWrite hs ((keeps_clampedIf ..).inRange
    (settings_inRange hs ⟨hperiod, hguard, hlimit, hinterval, hwindow, hthreshold⟩ rfl))

theorem guardWrite_stays (data : Word) : Stays (execGuardWrite data s) := by
  obtain ⟨hperiod, -, hlimit, hinterval, hwindow, hthreshold⟩ := hs.registers.settings
  have hguard := clampField_range (by decide : 24 ≤ 4095) (fieldOf data 0 12)
  exact stays_hostAccess hs ((keeps_clampedIf ..).inRange
    (settings_inRange hs ⟨hperiod, hguard, hlimit, hinterval, hwindow, hthreshold⟩ rfl))

theorem rollcallConfigWrite_stays (data : Word) : Stays (execRollcallConfigWrite data s) := by
  obtain ⟨hperiod, hguard, hlimit, -, -, hthreshold⟩ := hs.registers.settings
  have hinterval := clampField_range (by decide : 1 ≤ 255) (fieldOf data 8 8)
  have hwindow := clampField_range (by decide : 16 ≤ 1023) (fieldOf data 16 11)
  exact stays_hostAccess hs ((keeps_clampedIf ..).inRange
    (settings_inRange hs ⟨hperiod, hguard, hlimit, hinterval, hwindow, hthreshold⟩ rfl))

theorem notifyThresholdWrite_stays (data : Word) : Stays (execNotifyThresholdWrite data s) := by
  obtain ⟨hperiod, hguard, hlimit, hinterval, hwindow, -⟩ := hs.registers.settings
  have hthreshold := clampField_range (by decide : 1 ≤ 32) (fieldOf data 0 6)
  exact stays_hostAccess hs ((keeps_clampedIf ..).inRange
    (settings_inRange hs ⟨hperiod, hguard, hlimit, hinterval, hwindow, hthreshold⟩ rfl))

omit hs in
/-- Below a new limit a record stays as it is, and at or above it the record is LOST, consistent in either case
(R76, R78). -/
theorem consistent_newLimit {limit new : Nat} {r : Station} (h : r.consistent limit) :
    (if r.state = .suspect ∧ new ≤ r.missCount then { r with state := .lost, missCount := 0 } else r).consistent
      new := by
  split
  · rename_i hlost
    obtain ⟨hidentity, hpayload, -, -, hwindow⟩ := h
    exact ⟨iff_of_false (mt hidentity.mp (by simp [hlost.1])) (by simp), hpayload, by simp, by simp, hwindow⟩
  · rename_i hstays
    obtain ⟨hidentity, hpayload, hmiss, -, hwindow⟩ := h
    exact ⟨hidentity, hpayload, hmiss, fun hsuspect => not_le.mp fun hle => hstays ⟨hsuspect, hle⟩, hwindow⟩

/-- The stations that the new limit loses leave none at or above it (R78). -/
theorem missLimitWrite_stays (data : Word) : Stays (execMissLimitWrite data s) := by
  by_cases hinit : s.engine = .init
  · rw [execMissLimitWrite, State.hostAccess_init hinit]
    exact stays_next hs
  obtain ⟨t, hexec, hsettings, hstations, -, hrest⟩ := missLimitWriteLosesStations s data _ hinit rfl
  change Stays (exec (.missLimitWrite data) s)
  rw [hexec]
  have hregisters : registers t = { registers s with settings := t.settings } :=
    (congrArg (fun u : State => { registers u with settings := t.settings }) hrest :)
  obtain ⟨hperiod, hguard, -, hinterval, hwindow, hthreshold⟩ := hs.registers.settings
  have hlimit : 1 ≤ max 1 (data.toNat % 8) ∧ max 1 (data.toNat % 8) ≤ 7 := by omega
  refine stays_next ⟨?_, fun i => ?_⟩
  · rw [hregisters, hsettings]
    exact { hs.registers with
      settings := ⟨hperiod, hguard, hlimit, hinterval, hwindow, hthreshold⟩ }
  · rw [hstations, hsettings]
    exact consistent_newLimit (hs.stations i)

theorem stationSelectWrite_stays (data : Word) : Stays (execStationSelectWrite data s) := by
  have hselect := clampField_range (by decide : 1 ≤ 62) (fieldOf data 0 8)
  refine stays_hostAccess hs ((keeps_clampedIf ..).inRange (hs.write ?_ rfl rfl))
  refine { hs.registers with stationSelect := ?_ }
  simp only [registers, BitVec.toNat_ofNat]
  omega

theorem stationConfigWrite_stays (data : Word) : Stays (execStationConfigWrite data s) := by
  refine stays_keepingAccess hs ((keeps_clampedIf ..).trans (keeps_setStation fun h => ?_))
  obtain ⟨hidentity, hpayload, hmiss, hbelow, -⟩ := h
  exact ⟨hidentity, hpayload, hmiss, hbelow, clampField_range (by decide) _⟩

theorem exmemAddrWrite_stays (data : Word) : Stays (execExmemAddrWrite data s) :=
  stays_hostAccess hs
    (hs.write { hs.registers with exmemAddr := toNat_and_not_mask 12 2 _ (by decide) } rfl rfl)

/-- EXMEM_ADDR advances by a word, wrapping to 0 (R108). -/
theorem exmemAddr_advances : (s.exmemAddr + 4).toNat % 4 = 0 := by
  have h : s.exmemAddr.toNat % 4 = 0 := hs.registers.exmemAddr
  bv_omega

theorem exmemDataRead_stays : Stays (execExmemDataRead s) := by
  unfold execExmemDataRead
  split
  · exact stays_next (hs.write hs.registers rfl rfl)
  · exact stays_next (hs.write { hs.registers with exmemAddr := exmemAddr_advances hs } rfl rfl)

theorem exmemDataWrite_stays (data : Word) : Stays (execExmemDataWrite data s) := by
  refine stays_hostAccess hs ?_
  exact hs.write { hs.registers with exmemAddr := exmemAddr_advances hs } rfl rfl

theorem slotRegisterWrite_stays (register : SlotRegister) (data : Word) :
    Stays (execSlotRegisterWrite register data s) := by
  have hschedule (x : Schedule) : Keeps { s with schedule := x } s := keeps_of_frame rfl rfl
  refine stays_keepingAccess hs ?_
  split
  · exact keeps_misuse ..
  · exact (keeps_clampedIf ..).trans (hschedule _)

/-! ### Accesses that the model refuses or ignores (R178, R194) -/

theorem commandCodeUnknown_stays (code arg : Byte) : Stays (execCommandCodeUnknown code arg s) := by
  unfold execCommandCodeUnknown
  split
  · exact stays_refused _
  · exact stays_keepingAccess hs (keeps_setDecision ..)

theorem narrowWrite_stays (offset : Byte) (enables : BitVec 4) (data : Word) :
    Stays (execNarrowWrite offset enables data s) := by
  unfold execNarrowWrite
  split
  · exact stays_keepingAccess hs (keeps_misuse ..)
  · exact stays_refused _

theorem ignoredRegisterWrite_stays (offset : Byte) (data : Word) : Stays (execIgnoredRegisterWrite offset data s) := by
  unfold execIgnoredRegisterWrite
  split
  · exact stays_next hs
  · exact stays_refused _

/-! ### Engine commands and the host's own registers -/

theorem start_stays (arg : Byte) : Stays (execStart arg s) := stays_keepingAccess hs (keeps_start s arg)

theorem stop_stays (arg : Byte) : Stays (execStop arg s) := stays_keepingAccess hs (keeps_stop s arg)

theorem abort_stays (arg : Byte) : Stays (execAbort arg s) := stays_keepingAccess hs (keeps_abort s arg)

theorem swap_stays (arg : Byte) : Stays (execSwap arg s) := stays_keepingAccess hs (keeps_swap s arg)

theorem softReset_stays (arg : Byte) : Stays (execSoftReset arg s) := stays_hostAccess hs (softReset_inRange hs arg)

theorem queueClear_stays (arg : Byte) : Stays (execQueueClear arg s) := by
  refine stays_hostAccess hs ?_
  exact hs.write hs.registers rfl rfl

theorem queuePop_stays (data : Word) : Stays (execQueuePop data s) := by
  refine stays_hostAccess hs ?_
  exact hs.write hs.registers rfl rfl

theorem intPendingWrite_stays (data : Word) : Stays (execIntPendingWrite data s) := by
  refine stays_hostAccess hs ?_
  exact hs.write hs.registers rfl rfl

theorem intEnableWrite_stays (data : Word) : Stays (execIntEnableWrite data s) := by
  refine stays_hostAccess hs ?_
  exact hs.write hs.registers rfl rfl

theorem windowStatusWrite_stays (data : Word) : Stays (execWindowStatusWrite data s) := by
  refine stays_hostAccess hs ?_
  exact hs.write hs.registers rfl rfl

theorem holdMaskWrite_stays (data : Word) : Stays (execHoldMaskWrite data s) := by
  refine stays_hostAccess hs ?_
  exact hs.write hs.registers rfl rfl

theorem slotSelectWrite_stays (data : Word) : Stays (execSlotSelectWrite data s) := by
  refine stays_hostAccess hs ?_
  exact hs.write hs.registers rfl rfl

/-! ### Every command -/

theorem exec_stays (c : Instr) : Stays (exec c s) := by
  cases c with
  | hardwareReset => exact hardwareReset_stays
  | initClearingFinished => exact initClearingFinished_stays hs
  | resetReleased => exact resetReleased_stays hs
  | startBit => exact stays_keeps hs (keeps_startBit s)
  | cellArrival cell => exact cellArrival_stays hs cell
  | gapLimitExpiry => exact gapLimitExpiry_stays hs
  | lineQuiet => exact lineQuiet_stays hs
  | echoMismatch => exact echoMismatch_stays hs
  | transmissionComplete => exact transmissionComplete_stays hs
  | markDue => exact markDue_stays hs
  | markBegin => exact markBegin_stays hs
  | quietWaitLimit => exact quietWaitLimit_stays hs
  | slotOpportunity => exact slotOpportunity_stays hs
  | owedSelection => exact owedSelection_stays hs
  | windowExpiry => exact windowExpiry_stays hs
  | retryOpportunity => exact retryOpportunity_stays hs
  | memoryTransferAnswer success word => exact memoryTransferAnswer_stays hs success word
  | start arg => exact start_stays hs arg
  | stop arg => exact stop_stays hs arg
  | abort arg => exact abort_stays hs arg
  | softReset arg => exact softReset_stays hs arg
  | swap arg => exact swap_stays hs arg
  | queueClear arg => exact queueClear_stays hs arg
  | admitStation arg => exact admit_stays hs arg
  | bar arg => exact bar_stays hs arg
  | forget arg => exact forget_stays hs arg
  | clearSticky arg => exact clearSticky_stays hs arg
  | ringEnable arg => exact ringEnable_stays hs arg
  | ringResume arg => exact ringResume_stays hs arg
  | ringReset arg => exact ringReset_stays hs arg
  | post r data => exact post_stays hs r data
  | ringStatusWrite r data => exact ringStatusWrite_stays hs r data
  | baseWrite r data => exact baseWrite_stays hs r data
  | lengthWrite r data => exact lengthWrite_stays hs r data
  | queuePop data => exact queuePop_stays hs data
  | intPendingWrite data => exact intPendingWrite_stays hs data
  | intEnableWrite data => exact intEnableWrite_stays hs data
  | windowStatusWrite data => exact windowStatusWrite_stays hs data
  | lineConfigWrite data => exact lineConfigWrite_stays hs data
  | cyclePeriodWrite data => exact cyclePeriodWrite_stays hs data
  | guardWrite data => exact guardWrite_stays hs data
  | missLimitWrite data => exact missLimitWrite_stays hs data
  | rollcallConfigWrite data => exact rollcallConfigWrite_stays hs data
  | notifyThresholdWrite data => exact notifyThresholdWrite_stays hs data
  | holdMaskWrite data => exact holdMaskWrite_stays hs data
  | slotSelectWrite data => exact slotSelectWrite_stays hs data
  | slotRegisterWrite register data => exact slotRegisterWrite_stays hs register data
  | stationSelectWrite data => exact stationSelectWrite_stays hs data
  | stationConfigWrite data => exact stationConfigWrite_stays hs data
  | exmemAddrWrite data => exact exmemAddrWrite_stays hs data
  | exmemDataRead => exact exmemDataRead_stays hs
  | exmemDataWrite data => exact exmemDataWrite_stays hs data
  | commandCodeUnknown code arg => exact commandCodeUnknown_stays hs code arg
  | narrowWrite offset enables data => exact narrowWrite_stays hs offset enables data
  | ignoredRegisterWrite offset data => exact ignoredRegisterWrite_stays hs offset data

theorem idleStep_stays : Stays (idleStep s) := by
  unfold idleStep
  split
  · exact exec_stays hs _
  · refine stays_next ?_
    unfold State.bitTime
    split
    · exact hs
    · exact elapse_inRange hs 1

theorem step_stays : Stays (step s) := by
  unfold step
  split
  · rename_i c rest _
    have hpopped : InRange { s with pending := rest } := hs.write hs.registers rfl rfl
    exact exec_stays hpopped c
  · exact idleStep_stays hs

end Writes

/-- Settles O8: `InRange` holds after every command (`exec_stays`, a lemma per command), since each leaves the
registers and keeps the records consistent (`Keeps`), or writes a register within its range. -/
theorem registersAndStationsStayInRange : Obligations.RegistersAndStationsStayInRange := by
  intro s t hsettings hcounts hstations hstep
  have hs : InRange s := (inRange_iff s).mpr ⟨hsettings, hcounts, hstations⟩
  exact (inRange_iff t).mp (step_stays hs t hstep)

end Sys2Proof.Machine.StationTable
end

section
namespace Sys2Proof.Machine.SchedulePages
open StationTable

/-! ### Pages (R90, R93, R98) -/

/-- The schedule once a swap has been applied (R98). -/
def swapped (x : Schedule) : Schedule :=
  { x with active := x.active.other, status := Vector.replicate 32 none, swapPending := false }

@[simp] theorem other_other (p : PageNumber) : p.other.other = p := by cases p <;> rfl

@[simp] theorem swapped_activePage (x : Schedule) : (swapped x).activePage = x.editPage := rfl

@[simp] theorem swapped_editPage (x : Schedule) : (swapped x).editPage = x.activePage := by
  simp only [swapped, Schedule.editPage, Schedule.activePage, other_other]
  rfl

/-- A slot of the edit page is replaced on that page alone (R93). -/
@[simp] theorem setEditSlot_frame (x : Schedule) (i : Fin 32) (slot : Slot) :
    (x.setEditSlot i slot).active = x.active ∧ (x.setEditSlot i slot).activePage = x.activePage
      ∧ (x.setEditSlot i slot).editPage = x.editPage.set i slot
      ∧ (x.setEditSlot i slot).swapPending = x.swapPending ∧ (x.setEditSlot i slot).hold = x.hold
      ∧ (x.setEditSlot i slot).status = x.status ∧ (x.setEditSlot i slot).select = x.select
      ∧ (x.setEditSlot i slot).view = x.view := by
  cases h : x.active <;>
    simp [Schedule.setEditSlot, Schedule.activePage, Schedule.editPage, Schedule.page, PageNumber.other, h]

/-! ### Fields of the slot registers (R89, R92) -/

theorem fieldOf_eq (w : Word) (lo len : Nat) : fieldOf w lo len = w.toNat / 2 ^ lo % 2 ^ len := by
  simp [fieldOf, BitVec.extractLsb'_toNat, Nat.shiftRight_eq_div_pow]

/-- The stored report mode: the fourth code is ALWAYS (R89). -/
theorem reportMode_ofCode (v : Nat) :
    ReportMode.ofCode v = if v = 0 then .never else if v = 1 then .onFault else .always := by
  unfold ReportMode.ofCode
  split
  · rfl
  · rfl
  · rename_i h0 h1
    rw [if_neg h0, if_neg h1]

/-- A slot register write is clamped exactly when SLOT_STATION takes the fourth report code (R89, R192). -/
theorem reportClamped_iff (register : SlotRegister) (data : Word) :
    reportClamped register data = true ↔ register = .station ∧ data.toNat / 268435456 % 4 = 3 := by
  cases register <;> simp [reportClamped, fieldOf_eq]

/-! ### Writes of the schedule registers (R92, R93, R101) -/

section Writes
variable {s : State} (hs : s.engine ≠ .init) (data : Word)
include hs

theorem exec_holdMaskWrite :
    exec (.holdMaskWrite data) s = .next { s with schedule := { s.schedule with hold := data } } := by
  change execHoldMaskWrite data s = _
  rw [execHoldMaskWrite, State.hostAccess_taken hs]

theorem exec_slotSelectWrite : exec (.slotSelectWrite data) s = .next
    { s with schedule := { s.schedule with
        select := (data.extractLsb' 0 5).toFin, view := if data.getLsbD 8 then .active else .edit } } := by
  change execSlotSelectWrite data s = _
  rw [execSlotSelectWrite, State.hostAccess_taken hs]

variable (register : SlotRegister)

theorem exec_slotRegisterWrite_refused (hpending : s.schedule.swapPending = true) :
    exec (.slotRegisterWrite register data) s = .next (s.misuse .writeRefused) := by
  change execSlotRegisterWrite register data s = _
  rw [execSlotRegisterWrite, State.hostAccess_taken hs, if_pos hpending]

theorem exec_slotRegisterWrite (hpending : s.schedule.swapPending = false) :
    exec (.slotRegisterWrite register data) s = .next (State.clampedIf
      { s with
        schedule := s.schedule.setEditSlot s.schedule.select
          (s.schedule.editPage[s.schedule.select].written register data) }
      (reportClamped register data)) := by
  change execSlotRegisterWrite register data s = _
  rw [execSlotRegisterWrite, State.hostAccess_taken hs, if_neg (by simp [hpending])]

end Writes

/-- Settles O58: the three writes, each given by what it stores. -/
theorem scheduleRegisterWrites : Obligations.ScheduleRegisterWrites := by
  refine ⟨fun x => ⟨?_, ?_, ?_⟩, fun s register data hs => ⟨exec_holdMaskWrite hs data,
    ⟨_, exec_slotSelectWrite hs data, ?_, rfl, rfl⟩, exec_slotRegisterWrite_refused hs data register,
    fun hpending => ⟨_, exec_slotRegisterWrite hs data register hpending, ?_, fun i hi => ?_, ?_, ?_, ?_, ?_⟩⟩⟩
  · unfold Schedule.activePage
    cases x.active <;> rfl
  · unfold Schedule.editPage
    cases x.active <;> rfl
  · cases x.active <;> rfl
  · simp
  · simp
  · have hne : s.schedule.select.val ≠ i.val := fun h => hi (Fin.ext h.symm)
    simp [hne]
  · cases register <;> simp [Slot.written, reportMode_ofCode, fieldOf_eq]
  · simp only [clampedIf_host, reportClamped_iff]
  · simp
  · simp

end Sys2Proof.Machine.SchedulePages
end

section
namespace Sys2Proof.Machine.SchedulePages

/-! ### SWAP (R97, R98) -/

/-- The entry of a swap (R98, R163). -/
def swapEntry (s : State) : Entry :=
  { Entry.blank .swapDone 0 s.cycle.number with index := BitVec.ofNat 8 s.schedule.active.other.code }

/-- A swap's post reads nothing of the schedule (R98, R165). -/
theorem applySwap_eq (s : State) : s.applySwap = { s.post (swapEntry s) with schedule := swapped s.schedule } := by
  unfold State.applySwap State.post State.queueFull
  dsimp only
  split
  · rfl
  · split <;> rfl

theorem exec_swap_init (arg : Byte) (s : State) (hinit : s.engine = .init) : exec (.swap arg) s = .next s := by
  change execSwap arg s = _
  rw [execSwap, State.hostAccess_init hinit]

section Swap
variable {s : State} (hs : s.engine ≠ .init) (arg : Byte)
include hs

theorem exec_swap : exec (.swap arg) s = .next (s.swap arg) := by
  change execSwap arg s = _
  rw [execSwap, State.hostAccess_taken hs]

theorem exec_swap_pending (hpending : s.schedule.swapPending = true) :
    exec (.swap arg) s = .next (s.refusedState 5 arg 0) := by
  rw [exec_swap hs, State.swap, if_pos hpending]

variable (hpending : s.schedule.swapPending = false)
include hpending

theorem exec_swap_invalid {reason : Invalid} {index : Byte}
    (hverdict : s.validate s.schedule.editPage = some (reason, index)) :
    exec (.swap arg) s = .next (s.refusedInvalid 5 arg reason index) := by
  rw [exec_swap hs, State.swap, if_neg (by simp [hpending]), hverdict]

variable (hverdict : s.validate s.schedule.editPage = none)
include hverdict

theorem exec_swap_applied (hhalted : s.engine = .halted) :
    exec (.swap arg) s = .next (s.applySwap.done 5 arg) := by
  rw [exec_swap hs, State.swap, if_neg (by simp [hpending]), hverdict]
  simp only [hhalted, if_true]

theorem exec_swap_accepted (hhalted : s.engine ≠ .halted) : exec (.swap arg) s = .next
    (State.accepted { s with schedule := { s.schedule with swapPending := true } } 5 arg) := by
  rw [exec_swap hs, State.swap, if_neg (by simp [hpending]), hverdict]
  simp only [hhalted, if_false]

end Swap

/-- Settles O45: the branches of SWAP's decision, and the swap applied at once. -/
theorem swapIsDecidedInOrder : Obligations.SwapIsDecidedInOrder := by
  refine ⟨exec_swap_init, fun arg s hs =>
    ⟨exec_swap_pending hs arg, fun reason index hpending => exec_swap_invalid hs arg hpending,
      exec_swap_accepted hs arg, fun hpending hverdict hhalted =>
        ⟨_, exec_swap_applied hs arg hpending hverdict hhalted, ?_⟩⟩⟩
  rw [applySwap_eq]
  refine ⟨rfl, rfl, rfl, ?_⟩
  simp [State.done]

end Sys2Proof.Machine.SchedulePages
end

section
namespace Sys2Proof.Machine.SchedulePages
open TheCycle

/-! ### What an event leaves of the schedule and of the exchange memory (R90, R98, R105, R107) -/

/-- A schedule follows from another by slot results and the applying of a pending swap alone. -/
def Follows (y x : Schedule) : Prop :=
  (∃ status, y = { x with status := status }) ∨ x.swapPending = true ∧ y = swapped x

/-- The schedule stands but for the slot status table, and the exchange memory keeps its one form. -/
structure Stands (t s : State) : Prop where
  schedule : ∃ status, t.schedule = { s.schedule with status := status }
  memory : s.memoryCanonical → t.memoryCanonical

/-- The schedule follows by results and a pending swap, and the exchange memory keeps its one form. -/
structure Turns (t s : State) : Prop where
  schedule : Follows t.schedule s.schedule
  memory : s.memoryCanonical → t.memoryCanonical

/-- A change outside the schedule and the exchange memory. -/
theorem stands_of_frame {t s : State} (hschedule : t.schedule = s.schedule) (hmemory : t.exmem = s.exmem) :
    Stands t s :=
  ⟨⟨s.schedule.status, hschedule⟩, fun hs => by rwa [State.memoryCanonical, hmemory]⟩

theorem Stands.refl (s : State) : Stands s s := stands_of_frame rfl rfl

theorem Stands.trans {t u s : State} (h : Stands t u) (h' : Stands u s) : Stands t s := by
  obtain ⟨⟨status, ht⟩, hmemory⟩ := h
  obtain ⟨⟨_, hu⟩, hmemory'⟩ := h'
  exact ⟨⟨status, by rw [ht, hu]⟩, hmemory ∘ hmemory'⟩

theorem Stands.turns {t s : State} (h : Stands t s) : Turns t s := ⟨.inl h.schedule, h.memory⟩

theorem turns_of_frame {t s : State} (hschedule : t.schedule = s.schedule) (hmemory : t.exmem = s.exmem) :
    Turns t s := (stands_of_frame hschedule hmemory).turns

theorem Turns.refl (s : State) : Turns s s := (Stands.refl s).turns

/-- A swap empties the slot status table, so results taken before it leave no trace (R98). -/
theorem Turns.trans_stands {t u s : State} (h : Turns t u) (h' : Stands u s) : Turns t s := by
  obtain ⟨hschedule, hmemory⟩ := h
  obtain ⟨⟨status, hu⟩, hmemory'⟩ := h'
  refine ⟨?_, hmemory ∘ hmemory'⟩
  rw [hu] at hschedule
  rcases hschedule with ⟨status', ht⟩ | ⟨hpending, ht⟩
  · exact .inl ⟨status', ht⟩
  · exact .inr ⟨hpending, ht⟩

/-- What is changed after the swap lies outside the schedule and the exchange memory. -/
theorem Turns.carry {t u s : State} (h : Turns u s) (hschedule : t.schedule = u.schedule)
    (hmemory : t.exmem = u.exmem) : Turns t s :=
  ⟨by rw [hschedule]; exact h.schedule, fun hs => by rw [State.memoryCanonical, hmemory]; exact h.memory hs⟩

/-! ### Slots and swaps (R98, R104, R105) -/

theorem slotResult_stands (s : State) (i : Fin 32) (result : Result) (causes : KindSet) (payload : List Byte) :
    Stands (s.slotResult i result causes payload) s := by
  refine ⟨⟨_, slotResult_schedule ..⟩, fun hs => ?_⟩
  rw [slotResult_eq, State.memoryCanonical]
  dsimp only
  split
  · exact Memory.setBytes_wf _ _ hs
  · exact hs

theorem applySwap_schedule (s : State) : s.applySwap.schedule = swapped s.schedule := by
  simp [State.applySwap, swapped]

theorem applyPendingSwap_turns (s : State) : Turns s.applyPendingSwap s := by
  unfold State.applyPendingSwap
  split
  · rename_i hpending
    exact ⟨.inr ⟨hpending, applySwap_schedule s⟩, fun hs => by simpa [State.memoryCanonical] using hs⟩
  · exact .refl s

theorem Turns.raise {u s : State} (h : Turns u s) (f : IntFlag) : Turns (u.raise f) s :=
  h.carry (by simp) (by simp)

theorem enterHalted_turns (s : State) : Turns s.enterHalted s :=
  Turns.raise ((applyPendingSwap_turns _).trans_stands (by exact stands_of_frame rfl rfl)) _

/-! ### The end of an exchange (R54, R57, R61, R62) -/

theorem sourceTakes_stands (s : State) (e : Exchange) (result : Result) (reply : Option Reply) :
    Stands (s.sourceTakes e result reply) s := by
  unfold State.sourceTakes
  split
  · exact slotResult_stands ..
  · split
    · exact .refl s
    · split
      · exact .refl s
      · exact stands_of_frame (by simp) (by simp)
  · exact .refl s

theorem emptyContext_turns (s : State) (source : Source) : Turns (s.emptyContext source) s := by
  have hempty : Stands { s with context := none } s := stands_of_frame rfl rfl
  unfold State.emptyContext
  dsimp only
  split
  · exact (enterHalted_turns _).trans_stands hempty
  · split
    · split
      · exact turns_of_frame (by simp) (by simp)
      · exact hempty.turns
    · exact turns_of_frame (by simp) (by simp)
    · exact turns_of_frame (by simp) (by simp)
  all_goals exact hempty.turns

theorem endExchange_turns (s : State) (e : Exchange) (result : Result) (reply : Option Reply) :
    Turns (s.endExchange e result reply) s :=
  (emptyContext_turns ..).trans_stands ((sourceTakes_stands ..).trans (stands_of_frame (by simp) (by simp)))

theorem returnToStaging_turns (s : State) (e : Exchange) : Turns (s.returnToStaging e) s := by
  have hstay : Stands ((s.superviseExchange e).accountExchange e) s := stands_of_frame (by simp) (by simp)
  unfold State.returnToStaging
  refine (emptyContext_turns ..).trans_stands (Stands.trans ?_ hstay)
  split
  · split
    · exact .refl _
    · exact stands_of_frame (by simp) (by simp)
  · exact .refl _
  · exact .refl _

theorem interrupt_stands (s : State) (result : Result) : Stands (s.interrupt result) s := by
  unfold State.interrupt
  split
  · exact .refl s
  · rename_i e _
    have htaken : Stands ((s.accountExchange e).sourceTakes e result none) s :=
      (sourceTakes_stands ..).trans (stands_of_frame (by simp) (by simp))
    exact ⟨htaken.schedule, htaken.memory⟩

theorem enterLineFault_stands (s : State) (code : BitVec 5) : Stands (s.enterLineFault code) s := by
  have hfault : Stands (s.enterLineFault code) (s.interrupt .lineFault) :=
    stands_of_frame (by simp [State.enterLineFault]) (by simp [State.enterLineFault])
  exact hfault.trans (interrupt_stands ..)

theorem concludeTry_turns (s : State) (e : Exchange) (o : TryOutcome) (reply : Option Reply) :
    Turns (s.concludeTry e o reply) s := by
  unfold State.concludeTry
  dsimp only
  split
  · exact turns_of_frame rfl rfl
  · split
    · exact returnToStaging_turns ..
    · exact endExchange_turns ..

theorem takeExpiry_turns (s : State) (e : Exchange) : Turns (s.takeExpiry e) s := by
  unfold State.takeExpiry
  split
  · exact emptyContext_turns ..
  · exact (concludeTry_turns ..).trans_stands (stands_of_frame rfl rfl)

/-! ### The receiver (R14 to R20, R46 to R49, R60) -/

theorem takeIdentity_stands (s : State) (a : Address) (id : Identity) : Stands (s.takeIdentity a id) s := by
  have hjoin : Stands (s.join a id) s := stands_of_frame (by simp [State.join]) (by simp [State.join])
  unfold State.takeIdentity
  dsimp only
  split
  · exact hjoin
  · split
    · exact stands_of_frame (by simp [State.rejoin]) (by simp [State.rejoin])
    · exact hjoin
  all_goals exact .refl s

theorem takeRollReply_stands (s : State) (e : Exchange) (f : FrameReport) : Stands (s.takeRollReply e f) s := by
  unfold State.takeRollReply
  split
  · exact takeIdentity_stands ..
  · exact stands_of_frame (by simp) (by simp)

theorem frameAbandoned_turns (s : State) : Turns s.frameAbandoned s := by
  unfold State.frameAbandoned
  split
  · split
    · exact (emptyContext_turns ..).trans_stands (stands_of_frame (by simp) (by simp))
    · exact concludeTry_turns ..
  · exact turns_of_frame rfl rfl

theorem frameEnd_turns (s : State) (f : FrameReport) : Turns (s.frameEnd f) s := by
  have hlate : Stands { s with lateFrame := none } s := stands_of_frame rfl rfl
  unfold State.frameEnd
  split
  · split
    · exact (emptyContext_turns ..).trans_stands (takeRollReply_stands ..)
    · exact concludeTry_turns ..
  · dsimp only
    split
    · split
      · exact turns_of_frame (by simp [State.accountLate]) (by simp [State.accountLate])
      · exact hlate.turns
    · exact hlate.turns

theorem abandonFrame_turns (s : State) : Turns s.abandonFrame s :=
  (frameAbandoned_turns _).trans_stands (stands_of_frame (by simp) (by simp))

theorem takeFrameByte_turns (s : State) (b : Byte) : Turns (s.takeFrameByte b) s := by
  have hreceiver (x : Receiver) : Stands (s.setReceiver x) s := stands_of_frame (by simp) (by simp)
  unfold State.takeFrameByte
  dsimp only
  split
  · exact (hreceiver _).turns
  · split
    · exact (hreceiver _).turns
    · split
      · split
        · exact (abandonFrame_turns _).trans_stands (hreceiver _)
        · exact (hreceiver _).turns
      · split
        · exact (hreceiver _).turns
        · split
          · exact (hreceiver _).turns
          · exact (frameEnd_turns ..).trans_stands (hreceiver _)

theorem takeHeldExpiry_turns (s : State) : Turns s.takeHeldExpiry s := by
  unfold State.takeHeldExpiry
  split
  · split
    · exact takeExpiry_turns ..
    · exact .refl s
  · exact .refl s

theorem syncArrival_stands (s : State) : Stands s.syncArrival s := by
  unfold State.syncArrival
  split
  · split <;> exact stands_of_frame rfl rfl
  · exact stands_of_frame rfl rfl

theorem receiveCell_turns (s : State) (cell : Cell) : Turns (s.receiveCell cell) s := by
  unfold State.receiveCell
  split
  · exact .refl s
  · split
    · split
      · exact ((syncArrival_stands _).trans (stands_of_frame (by simp) (by simp))).turns
      · exact takeHeldExpiry_turns s
    · exact takeHeldExpiry_turns s
    · exact takeFrameByte_turns ..
    · exact abandonFrame_turns s
    · exact takeHeldExpiry_turns s

theorem startBit_stands (s : State) : Stands s.startBit s := by
  unfold State.startBit
  split
  · exact stands_of_frame rfl rfl
  · exact .refl s

theorem cellArrives_turns (s : State) (cell : Cell) : Turns (s.cellArrives cell) s := by
  have hstart : Stands (if s.line.cell.isNone then s.startBit else s) s := by
    split
    · exact startBit_stands s
    · exact .refl s
  unfold State.cellArrives
  generalize (if s.line.cell.isNone then s.startBit else s) = v at *
  dsimp only
  split
  · exact hstart.turns
  · have hend (age : Nat) : Stands ((v.elapse (cellLeft age)).endCell cell) v :=
      stands_of_frame (by simp [State.endCell]) (by simp [State.endCell])
    exact (receiveCell_turns ..).trans_stands ((hend _).trans hstart)

/-! ### Transmissions that end (R10, R11, R25, R26, R43, R58) -/

theorem markCut_turns (s : State) : Turns s.markCut s := by
  have hcycle (c : CycleUnit) : Stands { s with cycle := c } s := stands_of_frame rfl rfl
  unfold State.markCut
  dsimp only
  split
  · exact ((enterLineFault_stands ..).trans (hcycle _)).turns
  · split
    · exact (hcycle _).turns
    · exact (enterHalted_turns _).trans_stands (hcycle _)
    all_goals exact (hcycle _).turns

theorem tryCut_turns (s : State) : Turns s.tryCut s := by
  have hcontext (x : Option Exchange) : Stands { s with context := x } s := stands_of_frame rfl rfl
  unfold State.tryCut
  split
  · split
    · exact (enterLineFault_stands ..).turns
    · exact .refl s
  · dsimp only
    split
    · exact ((enterLineFault_stands ..).trans (hcontext _)).turns
    · split
      · exact emptyContext_turns ..
      · exact concludeTry_turns ..

theorem markComplete_turns (s : State) : Turns s.markComplete s := by
  have hcycle (c : CycleUnit) : Stands { s with cycle := c } s := stands_of_frame rfl rfl
  unfold State.markComplete
  dsimp only
  split
  · exact turns_of_frame (by simp) (by simp)
  · exact (enterHalted_turns _).trans_stands (hcycle _)
  all_goals exact (hcycle _).turns

theorem tryComplete_turns (s : State) : Turns s.tryComplete s := by
  unfold State.tryComplete
  split
  · exact .refl s
  · split
    · exact endExchange_turns ..
    · exact turns_of_frame rfl rfl

/-! ### The walk, the selection and the mark (R24, R31 to R36) -/

theorem skipAll_stands (slots : List (Fin 32)) (s : State) : Stands (skipAll s slots) s := by
  induction slots generalizing s with
  | nil => exact .refl s
  | cons i slots ih => exact (ih _).trans (slotResult_stands ..)

theorem closeWalk_stands (s : State) : Stands s.closeWalk s := by
  by_cases hopen : s.cycle.phase ≠ .cyclic ∨ s.cycle.walk = none
  · rw [closeWalk_finished hopen]
    exact .refl s
  · obtain ⟨hphase, hsome⟩ := not_or.mp hopen
    obtain ⟨w, hwalk⟩ := Option.ne_none_iff_exists'.mp hsome
    have hskipped := skipAll_stands ((List.finRange 32).filter (leftOver s w)) s
    rw [closeWalk_unfinished (not_not.mp hphase) hwalk]
    exact ⟨hskipped.schedule, hskipped.memory⟩

theorem runSlot_stands (s : State) (i : Fin 32) : Stands (s.runSlot i) s := by
  unfold State.runSlot
  split
  · rename_i result _
    exact (stands_of_frame (by simp) (by simp)).trans (slotResult_stands s i result 0 [])
  · exact stands_of_frame (by simp) (by simp)

theorem offer_stands (s : State) (r : Ring) : Stands (s.offer r).1 s := by
  unfold State.offer
  dsimp only
  split
  · split
    · exact stands_of_frame (by simp) (by simp)
    · split
      · exact stands_of_frame (by simp [State.beginRecord]) (by simp [State.beginRecord])
      · exact .refl s
  · exact .refl s

theorem considerRollCall_stands (s : State) : Stands s.considerRollCall s := by
  unfold State.considerRollCall
  split
  · exact .refl s
  · split
    · exact .refl s
    · split
      · exact stands_of_frame rfl rfl
      · exact stands_of_frame (by simp) (by simp)

theorem select_stands (s : State) : Stands s.select s := by
  have hmade (order : Nat) : Stands (selectionMade s order) s := stands_of_frame rfl rfl
  by_cases hboth : ∀ r, s.offerCompletes r = true
  · obtain ⟨first, hselect⟩ := State.select_both hboth
    rw [hselect]
    exact (considerRollCall_stands _).trans ((offer_stands _ _).trans ((offer_stands _ first).trans (hmade _)))
  · obtain ⟨r, hr⟩ := not_forall.mp hboth
    have hu := (offer_stands _ .u).trans (hmade s.orderIndex)
    rw [select_in_order (by simpa using hr)]
    split
    · exact hu
    · split
      · exact (offer_stands _ .n).trans hu
      · exact (considerRollCall_stands _).trans ((offer_stands _ .n).trans hu)

theorem beginMark_turns (s : State) (w : MarkWant) : Turns (s.beginMark w) s := by
  obtain ⟨host, hmarked⟩ := marked_fields s.applyPendingSwap
  rw [beginMark_eq s w _ rfl, hmarked]
  exact (applyPendingSwap_turns s).carry rfl rfl

theorem orphan_turns (s : State) (r : Ring) : Turns (s.orphan r) s := by
  unfold State.orphan
  split
  · exact .refl s
  · split
    · exact .refl s
    · exact .refl s
    · split
      · dsimp only
        split
        · exact endExchange_turns ..
        · exact turns_of_frame rfl rfl
      · exact .refl s

end Sys2Proof.Machine.SchedulePages
end

section
namespace Sys2Proof.Machine.SchedulePages
open TheCycle

/-! ### What a command leads to -/

/-- Every next state of an answer follows from a state by slot results and the applying of a pending swap. -/
def Turned (s : State) (a : Answer) : Prop := ∀ t, a = .next t → Turns t s

section Answers
variable {s : State}

theorem turned_next {t : State} (h : Turns t s) : Turned s (.next t) := by
  intro u hu
  obtain rfl := Host.Outcome.next.inj hu
  exact h

theorem turned_refused (x : Refusal) : Turned s (.refused x) := by
  intro u hu
  cases hu

theorem turned_hostAccess {effect : State → State} (h : Turns (effect s) s) : Turned s (s.hostAccess effect) := by
  unfold State.hostAccess
  split
  · exact turned_next (.refl s)
  · exact turned_next h

/-- A host access outside the schedule and the exchange memory. -/
theorem turned_access {effect : State → State} (hschedule : (effect s).schedule = s.schedule)
    (hmemory : (effect s).exmem = s.exmem) : Turned s (s.hostAccess effect) :=
  turned_hostAccess (turns_of_frame hschedule hmemory)

theorem turned_haltedWrite {effect : State → State} (hschedule : (effect s).schedule = s.schedule)
    (hmemory : (effect s).exmem = s.exmem) : Turned s (s.hostAccess (·.haltedWrite effect)) := by
  refine turned_hostAccess ?_
  unfold State.haltedWrite
  split
  · exact turns_of_frame hschedule hmemory
  · exact turns_of_frame (by simp) (by simp)

end Answers

section Events
variable (s : State)

/-! ### The events of the line (R2, R10, R11, R17, R19) -/

theorem elapse_stands (k : Nat) : Stands (s.elapse k) s := stands_of_frame (by simp) (by simp)

theorem cellArrival_turned (cell : Cell) : Turned s (execCellArrival cell s) := by
  unfold execCellArrival
  split
  · exact turned_next (.refl s)
  · exact turned_next (cellArrives_turns s cell)

theorem gapLimitExpiry_turned : Turned s (execGapLimitExpiry s) := by
  unfold execGapLimitExpiry
  split
  · exact turned_next ((abandonFrame_turns _).trans_stands (elapse_stands ..))
  · exact turned_next (.refl s)

theorem lineQuiet_turned : Turned s (execLineQuiet s) := by
  unfold execLineQuiet
  split
  · exact turned_next ((elapse_stands ..).turns.carry rfl rfl)
  · exact turned_next (.refl s)

theorem echoMismatch_turned : Turned s (execEchoMismatch s) := by
  have hcut : Stands s.cutByEcho s := stands_of_frame rfl rfl
  unfold execEchoMismatch
  split
  · exact turned_next (.refl s)
  · split
    · exact turned_next ((markCut_turns _).trans_stands hcut)
    · exact turned_next ((tryCut_turns _).trans_stands hcut)

theorem transmissionComplete_turned : Turned s (execTransmissionComplete s) := by
  have hdone (k : Nat) : Stands (s.elapse k).txDone s :=
    stands_of_frame (by simp [State.txDone]) (by simp [State.txDone])
  unfold execTransmissionComplete
  split
  · exact turned_next (.refl s)
  · split
    · exact turned_next ((markComplete_turns _).trans_stands (hdone _))
    · exact turned_next ((tryComplete_turns _).trans_stands (hdone _))

/-! ### The events of the cycle (R23, R24, R27, R31, R33) -/

theorem markDue_turned : Turned s (execMarkDue s) := by
  have hwant (k : Nat) (c : CycleUnit) : Stands { s.elapse k with cycle := c } s :=
    stands_of_frame (by simp) (by simp)
  unfold execMarkDue
  split
  · exact turned_next ((closeWalk_stands _).trans (hwant _ _)).turns
  · exact turned_next (.refl s)

theorem markBegin_turned : Turned s (execMarkBegin s) := by
  unfold execMarkBegin
  split
  · exact turned_next (.refl s)
  · split
    · exact turned_next (beginMark_turns ..)
    · exact turned_next (.refl s)

theorem quietWaitLimit_turned : Turned s (execQuietWaitLimit s) := by
  unfold execQuietWaitLimit
  split
  · exact turned_next (.refl s)
  · exact turned_next ((enterLineFault_stands ..).trans (elapse_stands ..)).turns

theorem slotOpportunity_turned : Turned s (execSlotOpportunity s) := by
  unfold execSlotOpportunity
  split
  · exact turned_next (.refl s)
  · split
    · split
      · exact turned_next (runSlot_stands ..).turns
      · exact turned_next (turns_of_frame (by simp) (by simp))
    · exact turned_next (.refl s)

theorem owedSelection_turned : Turned s (execOwedSelection s) := by
  unfold execOwedSelection
  split
  · exact turned_next (select_stands s).turns
  · exact turned_next (.refl s)

/-! ### The events of the context and of the memory port (R42, R53, R138) -/

theorem windowExpiry_turned : Turned s (execWindowExpiry s) := by
  unfold execWindowExpiry
  split
  · exact turned_next (.refl s)
  · dsimp only
    split
    · exact turned_next (elapse_stands ..).turns
    · exact turned_next ((takeExpiry_turns ..).trans_stands (elapse_stands ..))

theorem retryOpportunity_turned : Turned s (execRetryOpportunity s) := by
  unfold execRetryOpportunity
  split
  · exact turned_next (.refl s)
  · split
    · split
      · exact turned_next (turns_of_frame (by simp) (by simp))
      · exact turned_next (returnToStaging_turns ..)
    · exact turned_next (.refl s)

theorem resetReleased_turned : Turned s (execResetReleased s) := by
  unfold execResetReleased
  split
  · exact turned_next (turns_of_frame rfl rfl)
  · exact turned_next (.refl s)

end Events

section Commands
variable (s : State) (arg : Byte)

/-! ### Engine commands (R180, R183, R185) -/

theorem Turns.done {s u : State} (h : Turns u s) (code arg : Byte) : Turns (u.done code arg) s := h.carry rfl rfl

theorem start_turns : Turns (s.start arg) s := by
  unfold State.start
  split
  · exact turns_of_frame rfl rfl
  · split
    · exact turns_of_frame rfl rfl
    · split <;> exact turns_of_frame rfl rfl

theorem leaveLineFault_turns : Turns s.leaveLineFault s := (enterHalted_turns s).carry rfl rfl

theorem stop_turns : Turns (s.stop arg) s := by
  unfold State.stop
  split
  · split
    · exact turns_of_frame rfl rfl
    · exact (enterHalted_turns s).done 2 arg
  · exact (enterHalted_turns s).done 2 arg
  · exact (leaveLineFault_turns s).done 2 arg
  all_goals exact turns_of_frame rfl rfl

theorem abort_turns : Turns (s.abort arg) s := by
  have hcut : Stands (s.cutByEngine.interrupt .aborted) s :=
    (interrupt_stands ..).trans (stands_of_frame (by simp) (by simp))
  have hhalted := (enterHalted_turns _).trans_stands hcut
  unfold State.abort
  split
  · exact hhalted.done 3 arg
  · exact hhalted.done 3 arg
  · exact hhalted.done 3 arg
  · exact ((leaveLineFault_turns _).trans_stands hcut).done 3 arg
  all_goals exact turns_of_frame rfl rfl

/-! ### Station commands and the miss limit (R78, R80 to R84) -/

theorem stationCommand_turns (code : Byte) (accepts : StationState → Bool) (act : Station → Station) :
    Turns (s.stationCommand code arg accepts act) s := by
  unfold State.stationCommand
  split
  · exact turns_of_frame rfl rfl
  · dsimp only
    split
    · exact turns_of_frame (by simp [State.done]) (by simp [State.done])
    · exact turns_of_frame rfl rfl

theorem clearSticky_turned : Turned s (execClearSticky arg s) := by
  refine turned_hostAccess ?_
  split
  · exact turns_of_frame (by simp [State.done, State.clearAllSticky]) (by simp [State.done, State.clearAllSticky])
  · exact stationCommand_turns ..

theorem loseAtLimit_stands : Stands s.loseAtLimit s := by
  unfold State.loseAtLimit
  induction List.finRange 62 generalizing s with
  | nil => exact .refl s
  | cons i slots ih =>
    rw [List.foldl_cons]
    refine (ih _).trans ?_
    dsimp only
    split
    · exact stands_of_frame (by simp) (by simp)
    · exact .refl s

theorem missLimitWrite_turned (data : Word) : Turned s (execMissLimitWrite data s) :=
  turned_hostAccess ((loseAtLimit_stands _).trans (stands_of_frame (by simp) (by simp))).turns

/-! ### Ring commands (R112, R116, R117, R131 to R134) -/

theorem ringCommand_turned (code : Byte) {effect : State → Ring → State} (h : ∀ r, Turns (effect s r) s) :
    Turned s (s.hostAccess fun s => s.ringCommand code arg (effect s)) := by
  refine turned_hostAccess ?_
  unfold State.ringCommand
  split
  · exact turns_of_frame rfl rfl
  · exact h _

theorem enableRing_turns (r : Ring) : Turns (s.enableRing arg r) s := by
  unfold State.enableRing
  dsimp only
  split
  · exact turns_of_frame rfl rfl
  · split
    · exact turns_of_frame rfl rfl
    · exact turns_of_frame (by simp [State.done]) (by simp [State.done])

theorem resumeRing_turns (r : Ring) : Turns (s.resumeRing arg r) s := by
  unfold State.resumeRing
  dsimp only
  split
  · exact turns_of_frame rfl rfl
  · exact turns_of_frame (by simp [State.done]) (by simp [State.done])

theorem resetRing_turns (r : Ring) : Turns (s.resetRing r) s :=
  (orphan_turns _ r).trans_stands (stands_of_frame (by simp) (by simp))

theorem postRecords_turns (r : Ring) (n : Nat) : Turns (s.postRecords r n) s := by
  unfold State.postRecords
  dsimp only
  split
  · exact turns_of_frame (by simp) (by simp)
  · split
    · exact .refl s
    · split <;> exact turns_of_frame (by simp) (by simp)

theorem ringConfigWrite_turns (r : Ring) (change : RingUnit → RingUnit) : Turns (s.ringConfigWrite r change) s := by
  unfold State.ringConfigWrite
  dsimp only
  split <;> exact turns_of_frame (by simp) (by simp)

theorem ringStatusWrite_turned (r : Ring) (data : Word) : Turned s (execRingStatusWrite r data s) := by
  refine turned_hostAccess ?_
  split
  · exact turns_of_frame (by simp) (by simp)
  · exact .refl s

/-! ### The exchange memory, and accesses that the model refuses or ignores (R108, R178, R194) -/

theorem exmemDataRead_turned : Turned s (execExmemDataRead s) := by
  unfold execExmemDataRead
  split <;> exact turned_next (turns_of_frame rfl rfl)

theorem exmemDataWrite_turned (data : Word) : Turned s (execExmemDataWrite data s) :=
  turned_hostAccess ⟨.inl ⟨_, rfl⟩, fun hs => Memory.setBytes_wf _ _ hs⟩

theorem commandCodeUnknown_turned (code : Byte) : Turned s (execCommandCodeUnknown code arg s) := by
  unfold execCommandCodeUnknown
  split
  · exact turned_refused _
  · exact turned_access rfl rfl

theorem narrowWrite_turned (offset : Byte) (enables : BitVec 4) (data : Word) :
    Turned s (execNarrowWrite offset enables data s) := by
  unfold execNarrowWrite
  split
  · exact turned_access (by simp) (by simp)
  · exact turned_refused _

theorem ignoredRegisterWrite_turned (offset : Byte) (data : Word) :
    Turned s (execIgnoredRegisterWrite offset data s) := by
  unfold execIgnoredRegisterWrite
  split
  · exact turned_next (.refl s)
  · exact turned_refused _

end Commands

/-! ### Every command (R90, R93, R107) -/

/-- The commands that write the schedule otherwise than by slot results and a pending swap: the resets, SWAP and the
writes of the schedule registers. -/
def writesSchedule : Instr → Bool
  | .hardwareReset | .initClearingFinished | .softReset _ | .swap _ | .holdMaskWrite _ | .slotSelectWrite _
  | .slotRegisterWrite _ _ => true
  | _ => false

theorem exec_turned {c : Instr} (hc : writesSchedule c = false) (s : State) : Turned s (exec c s) := by
  cases c with
  | hardwareReset => cases hc
  | initClearingFinished => cases hc
  | softReset arg => cases hc
  | swap arg => cases hc
  | holdMaskWrite data => cases hc
  | slotSelectWrite data => cases hc
  | slotRegisterWrite register data => cases hc
  | resetReleased => exact resetReleased_turned s
  | startBit => exact turned_next (startBit_stands s).turns
  | cellArrival cell => exact cellArrival_turned s cell
  | gapLimitExpiry => exact gapLimitExpiry_turned s
  | lineQuiet => exact lineQuiet_turned s
  | echoMismatch => exact echoMismatch_turned s
  | transmissionComplete => exact transmissionComplete_turned s
  | markDue => exact markDue_turned s
  | markBegin => exact markBegin_turned s
  | quietWaitLimit => exact quietWaitLimit_turned s
  | slotOpportunity => exact slotOpportunity_turned s
  | owedSelection => exact owedSelection_turned s
  | windowExpiry => exact windowExpiry_turned s
  | retryOpportunity => exact retryOpportunity_turned s
  | memoryTransferAnswer success word => exact turned_next (turns_of_frame (by simp) (by simp))
  | start arg => exact show Turned s (execStart arg s) from turned_hostAccess (start_turns s arg)
  | stop arg => exact show Turned s (execStop arg s) from turned_hostAccess (stop_turns s arg)
  | abort arg => exact show Turned s (execAbort arg s) from turned_hostAccess (abort_turns s arg)
  | queueClear arg => exact show Turned s (execQueueClear arg s) from turned_access rfl rfl
  | admitStation arg => exact show Turned s (execAdmit arg s) from turned_hostAccess (stationCommand_turns ..)
  | bar arg => exact show Turned s (execBar arg s) from turned_hostAccess (stationCommand_turns ..)
  | forget arg => exact show Turned s (execForget arg s) from turned_hostAccess (stationCommand_turns ..)
  | clearSticky arg => exact clearSticky_turned s arg
  | ringEnable arg =>
    exact show Turned s (execRingEnable arg s) from ringCommand_turned s arg 10 (enableRing_turns s arg)
  | ringResume arg =>
    exact show Turned s (execRingResume arg s) from ringCommand_turned s arg 11 (resumeRing_turns s arg)
  | ringReset arg =>
    exact show Turned s (execRingReset arg s) from
      ringCommand_turned s arg 12 fun r => (resetRing_turns s r).done 12 arg
  | post r data => exact show Turned s (execPost r data s) from turned_hostAccess (postRecords_turns ..)
  | ringStatusWrite r data => exact ringStatusWrite_turned s r data
  | baseWrite r data => exact show Turned s (execBaseWrite r data s) from turned_hostAccess (ringConfigWrite_turns ..)
  | lengthWrite r data =>
    exact show Turned s (execLengthWrite r data s) from turned_hostAccess (ringConfigWrite_turns ..)
  | queuePop data => exact show Turned s (execQueuePop data s) from turned_access rfl rfl
  | intPendingWrite data => exact show Turned s (execIntPendingWrite data s) from turned_access rfl rfl
  | intEnableWrite data => exact show Turned s (execIntEnableWrite data s) from turned_access rfl rfl
  | windowStatusWrite data => exact show Turned s (execWindowStatusWrite data s) from turned_access rfl rfl
  | lineConfigWrite data => exact show Turned s (execLineConfigWrite data s) from turned_haltedWrite (by simp) (by simp)
  | cyclePeriodWrite data =>
    exact show Turned s (execCyclePeriodWrite data s) from turned_haltedWrite (by simp) (by simp)
  | guardWrite data => exact show Turned s (execGuardWrite data s) from turned_access (by simp) (by simp)
  | missLimitWrite data => exact missLimitWrite_turned s data
  | rollcallConfigWrite data =>
    exact show Turned s (execRollcallConfigWrite data s) from turned_access (by simp) (by simp)
  | notifyThresholdWrite data =>
    exact show Turned s (execNotifyThresholdWrite data s) from turned_access (by simp) (by simp)
  | stationSelectWrite data =>
    exact show Turned s (execStationSelectWrite data s) from turned_access (by simp) (by simp)
  | stationConfigWrite data =>
    exact show Turned s (execStationConfigWrite data s) from turned_access (by simp) (by simp)
  | exmemAddrWrite data => exact show Turned s (execExmemAddrWrite data s) from turned_access rfl rfl
  | exmemDataRead => exact exmemDataRead_turned s
  | exmemDataWrite data => exact exmemDataWrite_turned s data
  | commandCodeUnknown code arg => exact commandCodeUnknown_turned s arg code
  | narrowWrite offset enables data => exact narrowWrite_turned s offset enables data
  | ignoredRegisterWrite offset data => exact ignoredRegisterWrite_turned s offset data

end Sys2Proof.Machine.SchedulePages
end

section
namespace Sys2Proof.Machine.SchedulePages

/-! ### The active page (R90, R93, R98) -/

/-- The active page is the one it was, with what it held. -/
def SamePage (t s : State) : Prop :=
  t.schedule.active = s.schedule.active ∧ t.schedule.activePage = s.schedule.activePage

/-- The two pages have changed places, no swap is pending and the slot status table is empty (R98). -/
def PagesSwapped (t s : State) : Prop :=
  t.schedule.active = s.schedule.active.other ∧ t.schedule.activePage = s.schedule.editPage
    ∧ t.schedule.editPage = s.schedule.activePage
    ∧ t.schedule.swapPending = false ∧ t.schedule.status = Vector.replicate 32 none

theorem samePage_of_schedule {t s : State} (h : t.schedule = s.schedule) : SamePage t s :=
  ⟨by rw [h], by rw [h]⟩

theorem pagesSwapped_of_schedule {t s : State} (h : t.schedule = swapped s.schedule) : PagesSwapped t s :=
  ⟨by rw [h]; rfl, by rw [h]; exact swapped_activePage _, by rw [h]; exact swapped_editPage _, by rw [h]; rfl,
    by rw [h]; rfl⟩

theorem Turns.pages {t s : State} (h : Turns t s) :
    SamePage t s ∨ PagesSwapped t s ∧ s.schedule.swapPending = true := by
  rcases h.schedule with ⟨status, ht⟩ | ⟨hpending, ht⟩
  · exact .inl ⟨by rw [ht], by rw [ht]; rfl⟩
  · exact .inr ⟨pagesSwapped_of_schedule ht, hpending⟩

/-- A host access leaves everything as it was, in INIT, or has its effect (R176). -/
theorem hostAccess_cases {s t : State} {effect : State → State} (h : s.hostAccess effect = .next t) :
    t = s ∨ t = effect s := by
  unfold State.hostAccess at h
  split at h
  · exact .inl (Host.Outcome.next.inj h).symm
  · exact .inr (Host.Outcome.next.inj h).symm

theorem samePage_of_hostAccess {s t : State} {effect : State → State} (h : s.hostAccess effect = .next t)
    (heffect : SamePage (effect s) s) : SamePage t s := by
  rcases hostAccess_cases h with rfl | rfl
  · exact ⟨rfl, rfl⟩
  · exact heffect

/-- SOFT_RESET keeps both pages and drops a pending swap (R189). -/
theorem softReset_schedule (s : State) (arg : Byte) : (s.softReset arg).schedule =
    { s.schedule with swapPending := false, hold := 0, status := Vector.replicate 32 none } := by
  simp [State.softReset, State.done]

theorem slotRegisterWrite_samePage (register : SlotRegister) (data : Word) {s t : State}
    (h : exec (.slotRegisterWrite register data) s = .next t) : SamePage t s := by
  change execSlotRegisterWrite register data s = _ at h
  refine samePage_of_hostAccess h ?_
  split
  · exact samePage_of_schedule (by simp)
  · constructor <;> simp

/-- SWAP changes the pages in HALTED alone, and otherwise at most leaves a swap pending (R97). -/
theorem swap_pages (s : State) (arg : Byte) :
    SamePage (s.swap arg) s ∨ PagesSwapped (s.swap arg) s ∧ s.engine = .halted := by
  unfold State.swap
  split
  · exact .inl ⟨rfl, rfl⟩
  · split
    · exact .inl ⟨rfl, rfl⟩
    · split
      · rename_i hhalted
        exact .inr ⟨pagesSwapped_of_schedule (applySwap_schedule s), hhalted⟩
      · exact .inl ⟨rfl, rfl⟩

/-- Settles O11: an event turns the pages by a pending swap at most (`exec_turned`), and of the commands that write
the schedule SWAP alone reaches the active page. -/
theorem activePageChangesOnlyBySwap : Obligations.ActivePageChangesOnlyBySwap := by
  intro c s t h hreset hclearing
  have key : SamePage t s ∨ PagesSwapped t s
      ∧ (s.schedule.swapPending = true ∨ ∃ arg, c = .swap arg ∧ s.engine = .halted) := by
    cases hc : writesSchedule c with
    | false => exact (exec_turned hc s t h).pages.imp_right fun ⟨hpages, hpending⟩ => ⟨hpages, .inl hpending⟩
    | true =>
      cases c with
      | hardwareReset => exact absurd rfl hreset
      | initClearingFinished => exact absurd rfl hclearing
      | softReset arg =>
        change execSoftReset arg s = _ at h
        have hreset := softReset_schedule s arg
        exact .inl (samePage_of_hostAccess h ⟨by rw [hreset], by rw [hreset]; rfl⟩)
      | swap arg =>
        change execSwap arg s = _ at h
        rcases hostAccess_cases h with rfl | rfl
        · exact .inl ⟨rfl, rfl⟩
        · exact (swap_pages s arg).imp_right fun ⟨hpages, hhalted⟩ => ⟨hpages, .inr ⟨arg, rfl, hhalted⟩⟩
      | holdMaskWrite data =>
        change execHoldMaskWrite data s = _ at h
        exact .inl (samePage_of_hostAccess h ⟨rfl, rfl⟩)
      | slotSelectWrite data =>
        change execSlotSelectWrite data s = _ at h
        exact .inl (samePage_of_hostAccess h ⟨rfl, rfl⟩)
      | slotRegisterWrite register data => exact .inl (slotRegisterWrite_samePage register data h)
      | _ => cases hc
  refine key.imp_right fun ⟨⟨hactive, hpage, hedit, hpending, hstatus⟩, hcause⟩ => ?_
  exact ⟨hactive, hpage, hedit, hpending, hstatus, hcause⟩

/-! ### The exchange memory (R107) -/

/-- A host access that leaves the exchange memory as it was. -/
theorem memory_of_hostAccess {s t : State} {effect : State → State} (h : s.hostAccess effect = .next t)
    (hs : s.memoryCanonical) (heffect : (effect s).exmem = s.exmem) : t.memoryCanonical := by
  rcases hostAccess_cases h with rfl | rfl
  · exact hs
  · rwa [State.memoryCanonical, heffect]

theorem swap_exmem (s : State) (arg : Byte) : (s.swap arg).exmem = s.exmem := by
  unfold State.swap
  split
  · rfl
  · split
    · rfl
    · split
      · simp [State.done]
      · rfl

/-- The exchange memory keeps its one form over every command (R107). -/
theorem exec_memoryCanonical {c : Instr} {s t : State} (hs : s.memoryCanonical) (h : exec c s = .next t) :
    t.memoryCanonical := by
  cases hc : writesSchedule c with
  | false => exact (exec_turned hc s t h).memory hs
  | true =>
    cases c with
    | hardwareReset =>
      obtain rfl := Host.Outcome.next.inj h
      exact State.reset_exmem_wf
    | initClearingFinished =>
      change execInitClearingFinished s = _ at h
      unfold execInitClearingFinished at h
      split at h <;> obtain rfl := Host.Outcome.next.inj h
      · rfl
      · exact hs
    | softReset arg =>
      change execSoftReset arg s = _ at h
      exact memory_of_hostAccess h hs (by simp [State.softReset, State.done])
    | swap arg =>
      change execSwap arg s = _ at h
      exact memory_of_hostAccess h hs (swap_exmem s arg)
    | holdMaskWrite data =>
      change execHoldMaskWrite data s = _ at h
      exact memory_of_hostAccess h hs rfl
    | slotSelectWrite data =>
      change execSlotSelectWrite data s = _ at h
      exact memory_of_hostAccess h hs rfl
    | slotRegisterWrite register data =>
      change execSlotRegisterWrite register data s = _ at h
      refine memory_of_hostAccess h hs ?_
      split <;> simp
    | _ => cases hc

/-- Settles O7: every command keeps the form, and so does the passing of a bit time. -/
theorem exchangeMemoryStaysCanonical : Obligations.ExchangeMemoryStaysCanonical := by
  intro s t hs h
  unfold step at h
  split at h
  · rename_i rest _
    have hpopped : State.memoryCanonical { s with pending := rest } := hs
    exact exec_memoryCanonical hpopped h
  · unfold idleStep at h
    split at h
    · exact exec_memoryCanonical hs h
    · obtain rfl := Host.Outcome.next.inj h
      unfold State.bitTime
      split
      · exact hs
      · exact (elapse_stands s 1).memory hs

end Sys2Proof.Machine.SchedulePages
end

section
namespace Sys2Proof.Machine.SchedulePages

/-! ### The host in INIT (R108, R176) -/

/-- In INIT the read of EXMEM_DATA hands over 0 and advances nothing (R108). -/
theorem exec_exmemDataRead_init {s : State} (hinit : s.engine = .init) :
    exec .exmemDataRead s = .next { s with host := { s.host with readData := 0 } } := by
  change execExmemDataRead s = _
  rw [execExmemDataRead, if_pos hinit]

/-- In INIT every host write is ignored with no flag (R176): all but two kinds of write are host accesses, and a write
that no register takes does nothing in any state. -/
theorem exec_hostCommand_init {c : Instr} {s : State} (hc : hostCommand c = true) (hwf : c.wellFormed = true)
    (hinit : s.engine = .init) (hread : c ≠ .exmemDataRead) : exec c s = .next s := by
  have hignored (effect : State → State) := State.hostAccess_init hinit effect
  cases c with
  | exmemDataRead => exact absurd rfl hread
  | commandCodeUnknown code arg =>
    have hunknown : ¬ knownCode code = true := by simpa [Instr.wellFormed] using hwf
    change execCommandCodeUnknown code arg s = _
    rw [execCommandCodeUnknown, if_neg hunknown, hignored]
  | narrowWrite offset enables data =>
    change execNarrowWrite offset enables data s = _
    rw [execNarrowWrite, if_pos hwf, hignored]
  | ignoredRegisterWrite offset data =>
    change execIgnoredRegisterWrite offset data s = _
    rw [execIgnoredRegisterWrite, if_pos hwf]
  | hardwareReset | initClearingFinished | cellArrival | gapLimitExpiry | lineQuiet | echoMismatch
  | transmissionComplete | markDue | markBegin | quietWaitLimit | slotOpportunity | owedSelection | windowExpiry
  | retryOpportunity | memoryTransferAnswer | startBit | resetReleased => cases hc
  | _ =>
    simp only [exec, hignored, execStart, execStop, execAbort, execSoftReset, execSwap, execAdmit, execBar, execForget,
      execClearSticky, execRingEnable, execRingResume, execRingReset, execQueueClear, execPost, execRingStatusWrite,
      execBaseWrite, execLengthWrite, execQueuePop, execIntPendingWrite, execIntEnableWrite, execWindowStatusWrite,
      execLineConfigWrite, execCyclePeriodWrite, execGuardWrite, execMissLimitWrite, execRollcallConfigWrite,
      execNotifyThresholdWrite, execHoldMaskWrite, execSlotSelectWrite, execSlotRegisterWrite, execStationSelectWrite,
      execStationConfigWrite, execExmemAddrWrite, execExmemDataWrite]

/-- Settles O15: writes are ignored, and both kinds of read give 0. -/
theorem initIgnoresTheHost : Obligations.InitIgnoresTheHost := by
  intro c s hc hwf hinit
  refine ⟨exec_hostCommand_init hc hwf hinit, exec_exmemDataRead_init hinit, fun offset => ?_⟩
  rw [State.read, if_pos hinit]

end Sys2Proof.Machine.SchedulePages
end

section
namespace Sys2Proof.Machine.SchedulePages

/-! ### The checks of a slot (R94, R96) -/

/-- The four checks of an enabled slot, as R94 states them. -/
def LegalSlot (x : Slot) : Prop :=
  1 ≤ x.station.toNat ∧ x.station.toNat ≤ 62
    ∧ x.outOffset.toNat + x.outLength.toNat ≤ 4096 ∧ x.inOffset.toNat + x.inCapacity.toNat ≤ 4096
    ∧ x.outLength.toNat ≤ 120 ∧ x.inCapacity.toNat ≤ 120
    ∧ x.rate.toNat ∈ [1, 2, 4, 8, 16] ∧ x.phase.toNat < x.rate.toNat

/-- The first of the four checks that an illegal slot fails (R94, R96). -/
def failedCheck (x : Slot) : Invalid :=
  if x.station = 0 ∨ x.station = 63 then .badStation
  else if 4096 < x.outOffset.toNat + x.outLength.toNat ∨ 4096 < x.inOffset.toNat + x.inCapacity.toNat then .areaBounds
  else if 120 < x.outLength.toNat ∨ 120 < x.inCapacity.toNat then .length
  else .ratePhase

theorem station_ne_iff (a : Address) : ¬(a = 0 ∨ a = 63) ↔ 1 ≤ a.toNat ∧ a.toNat ≤ 62 := by
  simp only [BitVec.toNat_eq]
  have := a.isLt
  change ¬(a.toNat = 0 ∨ a.toNat = 63) ↔ _
  omega

theorem legalSlot_iff (x : Slot) :
    LegalSlot x ↔ ¬(x.station = 0 ∨ x.station = 63)
      ∧ ¬(4096 < x.outOffset.toNat + x.outLength.toNat ∨ 4096 < x.inOffset.toNat + x.inCapacity.toNat)
      ∧ ¬(120 < x.outLength.toNat ∨ 120 < x.inCapacity.toNat)
      ∧ ¬(x.rate.toNat ∉ [1, 2, 4, 8, 16] ∨ x.rate.toNat ≤ x.phase.toNat) := by
  rw [station_ne_iff]
  simp only [LegalSlot, not_or, not_lt, not_not, not_le, and_assoc]

/-- The four checks in their order (R94). -/
theorem check_eq (x : Slot) :
    x.check =
      if x.station = 0 ∨ x.station = 63 then some .badStation
      else if 4096 < x.outOffset.toNat + x.outLength.toNat ∨ 4096 < x.inOffset.toNat + x.inCapacity.toNat then
        some .areaBounds
      else if 120 < x.outLength.toNat ∨ 120 < x.inCapacity.toNat then some .length
      else if x.rate.toNat ∉ [1, 2, 4, 8, 16] ∨ x.rate.toNat ≤ x.phase.toNat then some .ratePhase
      else none := by
  simp only [Slot.check, Bool.or_eq_true, decide_eq_true_eq, Bool.not_eq_true', List.contains_eq_mem,
    decide_eq_false_iff_not]
  rfl

theorem check_legal {x : Slot} (h : LegalSlot x) : x.check = none := by
  obtain ⟨hstation, hareas, hlength, hrate⟩ := (legalSlot_iff x).mp h
  rw [check_eq, if_neg hstation, if_neg hareas, if_neg hlength, if_neg hrate]

theorem check_illegal {x : Slot} (h : ¬ LegalSlot x) : x.check = some (failedCheck x) := by
  rw [check_eq, failedCheck]
  by_cases hstation : x.station = 0 ∨ x.station = 63
  · rw [if_pos hstation, if_pos hstation]
  rw [if_neg hstation, if_neg hstation]
  by_cases hareas : 4096 < x.outOffset.toNat + x.outLength.toNat ∨ 4096 < x.inOffset.toNat + x.inCapacity.toNat
  · rw [if_pos hareas, if_pos hareas]
  rw [if_neg hareas, if_neg hareas]
  by_cases hlength : 120 < x.outLength.toNat ∨ 120 < x.inCapacity.toNat
  · rw [if_pos hlength, if_pos hlength]
  rw [if_neg hlength, if_neg hlength, if_pos]
  by_contra hrate
  exact h ((legalSlot_iff x).mpr ⟨hstation, hareas, hlength, hrate⟩)

/-! ### The first failing slot (R94) -/

/-- Every enabled slot of the page is legal. -/
def LegalPage (page : Vector Slot 32) : Prop := ∀ i : Fin 32, (page[i]).enable = true → LegalSlot (page[i])

theorem firstBadSlot_legal {page : Vector Slot 32} (h : LegalPage page) : firstBadSlot page = none := by
  refine List.findSome?_eq_none_iff.mpr fun i _ => ?_
  split
  · rename_i henable
    rw [check_legal (h i henable), Option.map_none]
  · rfl

theorem firstBadSlot_illegal {page : Vector Slot 32} {i : Fin 32} (henable : (page[i]).enable = true)
    (hillegal : ¬ LegalSlot (page[i]))
    (hfirst : ∀ j : Fin 32, j < i → (page[j]).enable = true → LegalSlot (page[j])) :
    firstBadSlot page = some (failedCheck (page[i]), i) := by
  rw [firstBadSlot, ← Fin.findSome?_eq_findSome?_finRange, Fin.findSome?_eq_some_iff]
  refine ⟨i, ?_, fun j hj => ?_⟩
  · rw [if_pos henable, check_illegal hillegal, Option.map_some]
  · split
    · rename_i hj'
      rw [check_legal (hfirst j hj hj'), Option.map_none]
    · rfl

/-- A page with an illegal enabled slot has a first one. -/
theorem exists_first_illegal {page : Vector Slot 32} (h : ¬ LegalPage page) :
    ∃ i : Fin 32, (page[i]).enable = true ∧ ¬ LegalSlot (page[i])
      ∧ ∀ j : Fin 32, j < i → (page[j]).enable = true → LegalSlot (page[j]) := by
  classical
  have hsome : ∃ i : Fin 32, (page[i]).enable = true ∧ ¬ LegalSlot (page[i]) := by
    simpa only [LegalPage, not_forall, exists_prop] using h
  obtain ⟨i, ⟨henable, hillegal⟩, hmin⟩ := exists_minimal_of_wellFoundedLT _ hsome
  refine ⟨i, henable, hillegal, fun j hj hj' => ?_⟩
  by_contra hbad
  exact absurd (hmin ⟨hj', hbad⟩ hj.le) (not_le.mpr hj)

/-! ### The overbooking check (R95) -/

/-- What a due slot adds to a residue's sum: the quiet line before it and its budget (R28, R95). -/
def slotLoad (s : State) (x : Slot) : Nat :=
  24 + (10 * (12 + x.outLength.toNat + x.inCapacity.toNat) + (s.station x.station).window)

theorem foldl_add_eq_sum {α : Type} (f : α → Nat) (l : List α) (start : Nat) :
    l.foldl (fun sum i => sum + f i) start = start + (l.map f).sum := by
  rw [List.sum_eq_foldl, ← List.foldl_assoc (op := ((· + ·) : Nat → Nat → Nat)), List.foldl_map, Nat.add_zero]

/-- A legal slot has a rate above 0, so R31's condition says when it is due (R89, R91). -/
theorem dueIn_iff {x : Slot} (h : x.enable = true → LegalSlot x) (residue : Nat) :
    x.dueIn residue = true ↔ x.enable = true ∧ residue % x.rate.toNat = x.phase.toNat := by
  simp only [Slot.dueIn, Bool.and_eq_true, bne_iff_ne, beq_iff_eq, and_assoc]
  refine and_congr_right fun henable => and_iff_right ?_
  obtain ⟨-, -, -, -, -, -, -, hphase⟩ := h henable
  intro hrate
  simp [hrate] at hphase

theorem residueLoad_eq {page : Vector Slot 32} (h : LegalPage page) (s : State) (residue : Nat) :
    s.residueLoad page residue = 90 + ((List.finRange 32).map fun i =>
      if (page[i]).enable = true ∧ residue % (page[i]).rate.toNat = (page[i]).phase.toNat then
        slotLoad s (page[i]) else 0).sum := by
  rw [← foldl_add_eq_sum]
  unfold State.residueLoad
  congr 1
  funext sum i
  simp only [dueIn_iff (h i)]
  split <;> rfl

theorem overbooked_iff (s : State) (page : Vector Slot 32) :
    s.overbooked page = true ↔ (∃ i : Fin 32, (page[i]).enable = true)
      ∧ ∃ residue, residue < 16 ∧ s.settings.period < s.residueLoad page residue + s.settings.guard := by
  simp [State.overbooked]

theorem validate_legal {s : State} {page : Vector Slot 32} (h : LegalPage page) :
    s.validate page = if s.overbooked page then some (.overbooked, 0) else none := by
  rw [State.validate, firstBadSlot_legal h]

theorem validate_illegal {s : State} {page : Vector Slot 32} {i : Fin 32} (henable : (page[i]).enable = true)
    (hillegal : ¬ LegalSlot (page[i]))
    (hfirst : ∀ j : Fin 32, j < i → (page[j]).enable = true → LegalSlot (page[j])) :
    s.validate page = some (failedCheck (page[i]), BitVec.ofNat 8 i.val) := by
  rw [State.validate, firstBadSlot_illegal henable hillegal hfirst]

/-- Settles O41: a legal page's verdict is that of the overbooking check, and any other's is that of its first illegal
slot. -/
theorem validationPassesLegalPagesThatFit : Obligations.ValidationPassesLegalPagesThatFit := by
  intro s page legal fits hlegal hfits
  obtain rfl : legal = LegalSlot := funext fun x => propext (hlegal x)
  have hload (hpage : LegalPage page) (residue : Nat) :
      ¬ fits residue ↔ s.settings.period < s.residueLoad page residue + s.settings.guard := by
    rw [hfits, residueLoad_eq hpage, not_le]
    rfl
  have hover (hpage : LegalPage page) : s.overbooked page = true ↔
      (∃ i : Fin 32, (page[i]).enable = true) ∧ ∃ residue, residue < 16 ∧ ¬ fits residue := by
    simp only [overbooked_iff, hload hpage]
  refine ⟨⟨fun hpass => ?_, fun ⟨hpage, hfit⟩ => ?_⟩, fun hempty => ?_, fun hpage hsome hbad => ?_,
    fun i henable hillegal hfirst => validate_illegal henable hillegal hfirst⟩
  · have hpage : LegalPage page := by
      by_contra hpage
      obtain ⟨i, henable, hillegal, hfirst⟩ := exists_first_illegal hpage
      rw [validate_illegal henable hillegal hfirst] at hpass
      cases hpass
    refine ⟨hpage, fun hsome residue hresidue => ?_⟩
    by_contra hbad
    rw [validate_legal hpage, if_pos ((hover hpage).mpr ⟨hsome, residue, hresidue, hbad⟩)] at hpass
    cases hpass
  · rw [validate_legal hpage, if_neg]
    rw [hover hpage]
    rintro ⟨hsome, residue, hresidue, hbad⟩
    exact hbad (hfit hsome residue hresidue)
  · have hnone (i : Fin 32) : ¬ (page[i]).enable = true := fun henable => by cases (hempty i).symm.trans henable
    rw [validate_legal fun i henable => absurd henable (hnone i), if_neg]
    rw [overbooked_iff]
    exact fun ⟨⟨i, henable⟩, _⟩ => hnone i henable
  · rw [validate_legal hpage, if_pos ((hover hpage).mpr ⟨hsome, hbad⟩)]

end Sys2Proof.Machine.SchedulePages
end

section
namespace Sys2Proof.Machine.SchedulePages

/-! ### EXMEM_ADDR and EXMEM_DATA (R107, R108) -/

/-- A word with its low bits cleared is its value rounded down to a multiple of their weight. -/
theorem toNat_and_not_mask_eq (w k : Nat) (x : BitVec w) :
    (x &&& ~~~(BitVec.ofNat w (2 ^ k - 1))).toNat = x.toNat / 2 ^ k * 2 ^ k := by
  apply Nat.eq_of_testBit_eq
  intro i
  rw [Nat.testBit_mul_two_pow, Nat.testBit_div_two_pow, BitVec.testBit_toNat, BitVec.getLsbD_and, BitVec.getLsbD_not,
    BitVec.getLsbD_ofNat, Nat.testBit_two_pow_sub_one, BitVec.testBit_toNat]
  by_cases hi : k ≤ i
  · by_cases hiw : i < w
    · simp [hi, hiw, not_lt.mpr hi]
    · simp [hi, hiw, BitVec.getLsbD_of_ge x i (not_lt.mp hiw)]
  · simp [hi, not_le.mp hi]

/-- Four bytes make a word, the first the least significant (R108). -/
theorem wordOfBytes_toNat (b0 b1 b2 b3 : Byte) : (wordOfBytes b0 b1 b2 b3).toNat =
    b0.toNat + 256 * b1.toNat + 65536 * b2.toNat + 16777216 * b3.toNat := by
  have happend {n m : Nat} (x : BitVec n) (y : BitVec m) : (x ++ y).toNat = x.toNat * 2 ^ m + y.toNat := by
    rw [BitVec.toNat_append, ← Nat.shiftLeft_add_eq_or_of_lt y.isLt, Nat.shiftLeft_eq]
  simp only [wordOfBytes, happend]
  omega

/-- The bytes of a word, by its value (R108). -/
theorem wordBytes_getD (w : Word) {i : Nat} (hi : i < 4) :
    (wordBytes w).getD i 0 = BitVec.ofNat 8 (w.toNat / 256 ^ i) := by
  have hbyte (k : Nat) : w.extractLsb' (8 * k) 8 = BitVec.ofNat 8 (w.toNat / 256 ^ k) := by
    apply BitVec.eq_of_toNat_eq
    rw [BitVec.extractLsb'_toNat, Nat.shiftRight_eq_div_pow, pow_mul, BitVec.toNat_ofNat]
    rfl
  obtain rfl | rfl | rfl | rfl : i = 0 ∨ i = 1 ∨ i = 2 ∨ i = 3 := by omega
  · exact hbyte 0
  · exact hbyte 1
  · exact hbyte 2
  · exact hbyte 3

section Access
variable {s : State} (hs : s.engine ≠ .init)
include hs

theorem exec_exmemAddrWrite (data : Word) :
    exec (.exmemAddrWrite data) s = .next { s with exmemAddr := data.extractLsb' 0 12 &&& ~~~3#12 } := by
  change execExmemAddrWrite data s = _
  rw [execExmemAddrWrite, State.hostAccess_taken hs]

theorem exec_exmemDataRead : exec .exmemDataRead s = .next
    { s with
      host := { s.host with readData := s.exmem.wordAt s.exmemAddr.toNat }
      exmemAddr := s.exmemAddr + 4 } := by
  change execExmemDataRead s = _
  rw [execExmemDataRead, if_neg hs]

theorem exec_exmemDataWrite (data : Word) : exec (.exmemDataWrite data) s = .next
    { s with
      exmem := s.exmem.setBytes s.exmemAddr.toNat (wordBytes data)
      exmemAddr := s.exmemAddr + 4 } := by
  change execExmemDataWrite data s = _
  rw [execExmemDataWrite, State.hostAccess_taken hs]

end Access

/-- A word-aligned offset leaves room for a word. -/
theorem aligned_room {a : BitVec 12} (h : a.toNat % 4 = 0) : a.toNat + 4 ≤ 4096 := by
  have := a.isLt
  omega

/-- The word at an aligned offset, by its four bytes (R108). -/
theorem wordAt_toNat (m : Memory) {a : Nat} (h : a + 4 ≤ 4096) : (m.wordAt a).toNat =
    (m.byteAt a).toNat + 256 * (m.byteAt (a + 1)).toNat + 65536 * (m.byteAt (a + 2)).toNat
      + 16777216 * (m.byteAt (a + 3)).toNat := by
  have hinside (k : Nat) (hk : k < 4) : (a + k) % 4096 = a + k := Nat.mod_eq_of_lt (by omega)
  rw [Memory.wordAt, wordOfBytes_toNat]
  simp only [Config.exchangeBytes, Nat.mod_eq_of_lt (show a < 4096 by omega), hinside 1 (by decide),
    hinside 2 (by decide), hinside 3 (by decide)]

/-- The bytes after a word is written (R108). -/
theorem byteAt_wordWritten {m : Memory} (hm : m.wf = true) (data : Word) {a : Nat} (h : a + 4 ≤ 4096) (c : Nat) :
    (m.setBytes a (wordBytes data)).byteAt c =
      if a ≤ c ∧ c < a + 4 then BitVec.ofNat 8 (data.toNat / 256 ^ (c - a)) else m.byteAt c := by
  have hlength : (wordBytes data).length = 4 := rfl
  rw [Memory.byteAt_setBytes _ _ _ hm h, hlength]
  split
  · exact wordBytes_getD data (by omega)
  · rfl

/-- Settles O60: the address rounded down, the word read, and the bytes written, with the advance by 4. -/
theorem exchangeMemoryAccess : Obligations.ExchangeMemoryAccess := by
  intro s data hs hmemory haligned
  have hroom := aligned_room haligned
  have hadvance : (s.exmemAddr + 4).toNat = (s.exmemAddr.toNat + 4) % 4096 := BitVec.toNat_add ..
  refine ⟨⟨_, exec_exmemAddrWrite hs data, ?_, rfl⟩,
    ⟨_, exec_exmemDataRead hs, wordAt_toNat s.exmem hroom, hadvance, rfl⟩,
    ⟨_, exec_exmemDataWrite hs data, fun a _ => byteAt_wordWritten hmemory data hroom a, hadvance, rfl⟩⟩
  have hrounded := toNat_and_not_mask_eq 12 2 (data.extractLsb' 0 12)
  rw [BitVec.extractLsb'_toNat] at hrounded
  exact hrounded

end Sys2Proof.Machine.SchedulePages
end

section
namespace Sys2Proof.Machine.AcyclicRings
open TheCycle

/-! ### The fetch of a ring (R118, R136) -/

/-- A fetch moves its ring to FETCHING and leaves the other (R118). -/
theorem tryFetch_ringUnit (s : State) (r o : Ring) : (s.tryFetch r).ringUnit o =
    if o = r ∧ s.mayFetch r = true then { s.ringUnit r with stage := .fetching } else s.ringUnit o := by
  cases h : s.mayFetch r with
  | true => simp [tryFetch_fetches h, State.ringUnit_setRing]
  | false => simp [State.tryFetch_held h]

/-- A ring's move and its fetch leave the other ring (R118). -/
theorem setRing_tryFetch_other (s : State) (x : RingUnit) {r o : Ring} (ho : o ≠ r) :
    ((s.setRing r x).tryFetch r).ringUnit o = s.ringUnit o := by
  rw [tryFetch_ringUnit, if_neg fun h => ho h.1, State.ringUnit_setRing, if_neg ho]

/-- A ring fetches nothing while a request of its own, or one that a SOFT_RESET left, is in the queue (R118, R145). -/
theorem mayFetch_requested {s : State} {r : Ring} (h : ∃ q ∈ s.requests, q.ring = r ∨ q.sole = true) :
    s.mayFetch r = false := by
  obtain ⟨q, hq, hring | hsole⟩ := h
  · rw [← Bool.not_eq_true, mayFetch_iff]
    rintro ⟨-, -, -, hidle⟩
    exact (hidle q hq).1 hring
  · exact State.mayFetch_sole hq hsole r

/-- Where no request waits for the port, a fetch joins the requests as the newest, begun at once when it is the only
one (R136, R138). -/
theorem tryFetch_requests {s : State} {r : Ring} (h : s.mayFetch r = true)
    (hport : ∀ p rest, s.requests = p :: rest → p.begun = true) :
    (s.tryFetch r).requests = s.requests ++ [{ s.fetchRequest r with begun := s.requests.isEmpty }] := by
  rw [tryFetch_fetches h]
  cases hq : s.requests with
  | nil =>
    rw [State.issue_free (by simpa using hq) _ rfl (by simp [State.fetchRequest])]
    simp
  | cons p rest =>
    rw [State.issue_busy (by simpa using hq) (hport p rest hq)]
    simp [hq, State.fetchRequest]

/-- Where no request has begun, the fetch joins behind those waiting if the ring may fetch, and the oldest begins
(R118, R136, R138). -/
theorem tryFetch_serve_servesNext {s : State} (hwaits : ∀ p ∈ s.requests, p.begun = false) (r : Ring) :
    (s.tryFetch r).serve.servesNext (s.requests ++ if s.mayFetch r = true then [s.fetchRequest r] else []) := by
  cases h : s.mayFetch r with
  | true =>
    have hreq : (s.setRing r { s.ringUnit r with stage := .fetching }).requests = s.requests := by simp
    have hserves := State.issue_servesNext (s := s.setRing r { s.ringUnit r with stage := .fetching })
      (q := s.fetchRequest r) (by rwa [hreq]) rfl
    rw [hreq] at hserves
    simpa [tryFetch_fetches h] using hserves
  | false => simpa [State.tryFetch_held h] using State.serve_servesNext hwaits

/-! ### What an outcome leaves of its ring (R128, R130) -/

@[simp] theorem raise_ringUnit (s : State) (f : IntFlag) (r : Ring) : (s.raise f).ringUnit r = s.ringUnit r := by
  cases r <;> rfl

/-- A state that stands as s does but for the requests, with ring r as x and with what v hands on. -/
structure LeavesRing (t s : State) (r : Ring) (x : RingUnit) (v : State) : Prop where
  ring : t.ringUnit r = x
  others : ∀ o, o ≠ r → t.ringUnit o = s.ringUnit o
  hands : t.handsOn v
  keeps : { t with
    ringU := s.ringU, ringN := s.ringN, requests := s.requests, queue := s.queue, host := s.host } = s

/-- Replacing a ring once a request has left the queue. -/
theorem leavesRing_setRing (s : State) (rest : List Request) (r : Ring) (x : RingUnit) :
    LeavesRing ((unqueued s rest).setRing r x) s r x s where
  ring := by simp
  others o ho := by rw [State.ringUnit_setRing, if_neg ho, ringUnit_with_requests s rest]
  hands := ⟨by simp, by simp, by simp⟩
  keeps := by simp

section Leaves
variable {t s : State} {r : Ring} {x : RingUnit} {v : State} (h : LeavesRing t s r x v)
include h

theorem LeavesRing.post (hsettings : t.settings = v.settings) (e : Entry) :
    LeavesRing (t.post e) s r x (v.post e) where
  ring := by rw [Consistency.post_ringUnit, h.ring]
  others o ho := by rw [Consistency.post_ringUnit, h.others o ho]
  hands := State.handsOn_post h.hands hsettings e
  keeps := by simpa using h.keeps

theorem LeavesRing.raise (f : IntFlag) : LeavesRing (t.raise f) s r x (v.raise f) where
  ring := by rw [raise_ringUnit, h.ring]
  others o ho := by rw [raise_ringUnit, h.others o ho]
  hands := State.handsOn_raise h.hands f
  keeps := by simpa using h.keeps

theorem LeavesRing.serve : LeavesRing t.serve s r x v where
  ring := by rw [serve_ringUnit, h.ring]
  others o ho := by rw [serve_ringUnit, h.others o ho]
  hands := handsOn_trans (serve_handsOn t) h.hands
  keeps := by simpa using h.keeps

/-- The ring's fetch moves the ring to FETCHING when it may be made (R118). -/
theorem LeavesRing.tryFetch :
    LeavesRing (t.tryFetch r) s r (if t.mayFetch r = true then { x with stage := .fetching } else x) v where
  ring := by simp [tryFetch_ringUnit, h.ring]
  others o ho := by rw [tryFetch_ringUnit, if_neg fun hor => ho hor.1, h.others o ho]
  hands := handsOn_trans ⟨by simp, by simp, by simp⟩ h.hands
  keeps := by simpa using h.keeps

end Leaves

/-! ### The end of a STATUS_WRITE (R128, R129, R130) -/

/-- The entry of a returned record (R128). -/
def recordEntry (record : RingRecord) (r : Ring) (c : Completion) : Entry :=
  { Entry.blank .record c.result.code c.cycle with
    reissued := record.reissued, ring := r, station := record.station, index := record.index
    causes := record.causes }

/-- The entry of a ring that halts over a record's write-back (R130). -/
def writebackFaultEntry (s : State) (r : Ring) (record : RingRecord) : Entry :=
  { Entry.blank .ringHalt 3 s.cycle.number with
    ring := r, index := record.index, station := record.station, causes := record.causes
    reissued := record.reissued }

/-- When a returned record has an entry (R128). -/
theorem wantsEntry_iff (record : RingRecord) (result : Result) : record.wantsEntry result = true ↔
    record.notify = true ∨ (result ≠ .ok ∧ result ≠ .sent) := by simp [RingRecord.wantsEntry]

/-- A halt over a record's write-back: the ring's move, its flag, and its entry, in this order (R130). -/
theorem haltRing_writebackFault (s : State) (r : Ring) (record : RingRecord) :
    s.haltRing r .writebackFault record.index (some record) = ((s.setRing r { s.ringUnit r with
        state := .halted, reason := .writebackFault, stage := .none, current := none }).raise .ring).post
      (writebackFaultEntry s r record) := by
  simp [State.haltRing, writebackFaultEntry, HaltReason.code]

/-- A request that is not discarded ends with its outcome, and its ring may fetch (R118, R138). -/
theorem finishRequest_acts {s : State} {q : Request} (hd : q.discarded = false) (rest : List Request) (ok : Bool) :
    s.finishRequest q rest ok = (((unqueued s rest).takeOutcome q ok).tryFetch q.ring).serve := by
  simp only [State.finishRequest, hd, Bool.false_eq_true, if_false]

section StatusWrite
variable {s : State} {q : Request} {rest : List Request} {record : RingRecord}
  (hkind : q.kind = .statusWrite) (hcur : (s.ringUnit q.ring).current = some record)
include hkind hcur

/-- The last answer of a STATUS_WRITE returns its record, with an entry where one is asked for (R128). -/
theorem takeOutcome_statusWrite {c : Completion} (hc : record.completion = some c) :
    (unqueued s rest).takeOutcome q true =
      (let freed := (unqueued s rest).setRing q.ring { s.ringUnit q.ring with stage := .none, current := none }
       if record.notify = true ∨ (c.result ≠ .ok ∧ c.result ≠ .sent) then freed.post (recordEntry record q.ring c)
       else freed) := by
  simp only [State.takeOutcome, hkind, State.statusWriteDone, ringUnit_with_requests s rest, hcur, hc, if_true,
    wantsEntry_iff, recordEntry]

/-- An error of a STATUS_WRITE halts its ring (R129, R130). -/
theorem takeOutcome_statusWrite_error : (unqueued s rest).takeOutcome q false =
    (((unqueued s rest).setRing q.ring { s.ringUnit q.ring with
        state := .halted, reason := .writebackFault, stage := .none, current := none }).raise .ring).post
      (writebackFaultEntry s q.ring record) := by
  simp only [State.takeOutcome, hkind, State.statusWriteDone, ringUnit_with_requests s rest, hcur,
    Bool.false_eq_true, if_false, haltRing_writebackFault]
  rfl

/-- The record returned: its ring is free, and what is handed on is its entry where one is asked for (R128). -/
theorem statusWrite_leaves {c : Completion} (hc : record.completion = some c) :
    LeavesRing ((unqueued s rest).takeOutcome q true) s q.ring
        { s.ringUnit q.ring with stage := .none, current := none }
        (if record.notify = true ∨ (c.result ≠ .ok ∧ c.result ≠ .sent) then s.post (recordEntry record q.ring c) else s)
      ∧ ((unqueued s rest).takeOutcome q true).requests = rest := by
  have hfreed := leavesRing_setRing s rest q.ring { s.ringUnit q.ring with stage := .none, current := none }
  rw [takeOutcome_statusWrite hkind hcur hc]
  dsimp only
  split
  · exact ⟨hfreed.post (by simp) _, by simp⟩
  · exact ⟨hfreed, by simp⟩

/-- The ring halted: what is handed on is its flag and its entry (R129, R130). -/
theorem statusWrite_error_leaves :
    LeavesRing ((unqueued s rest).takeOutcome q false) s q.ring
        { s.ringUnit q.ring with state := .halted, reason := .writebackFault, stage := .none, current := none }
        ((s.raise .ring).post (writebackFaultEntry s q.ring record))
      ∧ ((unqueued s rest).takeOutcome q false).requests = rest
      ∧ ((unqueued s rest).takeOutcome q false).flag .ring = true := by
  rw [takeOutcome_statusWrite_error hkind hcur]
  exact ⟨((leavesRing_setRing s rest q.ring _).raise .ring).post (by simp) _, by simp,
    State.post_keeps_flag _ _ (by simp)⟩

end StatusWrite

/-- Settles O37: the record returned, with the ring's next fetch if it may be made; or the ring halted. -/
theorem statusWriteReturnsTheRecordOrHalts : Obligations.StatusWriteReturnsTheRecordOrHalts := by
  intro s q rest r record c w fetches hq hwaits hbegun hd hkind hr hactive hcur hc hfetches
  subst hr
  refine ⟨fun hanswered => ?_, ?_⟩
  · have hlast : q.transfers.length ≤ q.answered + 1 := by simp [Request.transfers, hkind, hanswered]
    obtain ⟨hleaves, hreq⟩ := statusWrite_leaves (q := answeredWith q w) (rest := rest) hkind hcur hc
    refine ⟨_, exec_lastAnswer hq hbegun hlast w, ?_⟩
    rw [finishRequest_acts (q := answeredWith q w) hd]
    generalize (unqueued s rest).takeOutcome (answeredWith q w) true = z at hleaves hreq ⊢
    have hmay : z.mayFetch q.ring = true ↔ fetches := by
      rw [mayFetch_iff, hleaves.ring, hreq, hfetches]
      simp [hactive]
    have hfetch : z.fetchRequest q.ring = s.fetchRequest q.ring := by simp only [State.fetchRequest, hleaves.ring]
    have hserves := tryFetch_serve_servesNext (by rwa [hreq]) q.ring
    obtain ⟨hring, hothers, hhands, hkeeps⟩ := hleaves.tryFetch.serve
    rw [hreq, hfetch] at hserves
    refine ⟨fun hf => ?_, fun hf => ?_, hhands, hothers, hkeeps⟩
    · rw [if_neg (hmay.not.mpr hf)] at hserves hring
      exact ⟨by simpa using hserves, hring⟩
    · rw [if_pos (hmay.mpr hf)] at hserves hring
      exact ⟨hring, hserves⟩
  · obtain ⟨hleaves, hreq, hflag⟩ := statusWrite_error_leaves (rest := rest) hkind hcur
    have hidle : ((unqueued s rest).takeOutcome q false).mayFetch q.ring = false :=
      mayFetch_inactive (by simp [hleaves.ring])
    refine ⟨_, exec_errorAnswer hq hbegun w, ?_⟩
    rw [finishRequest_taken hd rfl hidle]
    generalize (unqueued s rest).takeOutcome q false = z at hleaves hreq hflag ⊢
    have hserves := State.serve_servesNext (s := z) (by rwa [hreq])
    rw [hreq] at hserves
    obtain ⟨hring, hothers, hhands, hkeeps⟩ := hleaves.serve
    exact ⟨hserves, hring, (State.flag_congr (by simp) _).trans hflag, hhands, hothers, hkeeps⟩

end Sys2Proof.Machine.AcyclicRings
end

section
namespace Sys2Proof.Machine.AcyclicRings
open TheCycle SchedulePages

/-! ### Ring registers (R112, R117) -/

/-- Replacing a ring by itself changes nothing. -/
@[simp] theorem setRing_self (s : State) (r : Ring) : s.setRing r (s.ringUnit r) = s := by cases r <;> rfl

/-- A write of BASE or LENGTH to a ring in OFF (R112). -/
theorem ringConfigWrite_off {s : State} {r : Ring} (h : (s.ringUnit r).state = .off) (change : RingUnit → RingUnit) :
    s.ringConfigWrite r change = s.setRing r (change (s.ringUnit r)) := if_pos h

/-- A write of BASE or LENGTH to any other ring is refused (R112). -/
theorem ringConfigWrite_on {s : State} {r : Ring} (h : (s.ringUnit r).state ≠ .off) (change : RingUnit → RingUnit) :
    s.ringConfigWrite r change = s.misuse .writeRefused := if_neg h

/-- The address that BASE stores: the value rounded down to a multiple of 32 (R112). -/
theorem roundDown_eq (data : Word) : data &&& ~~~31#32 = BitVec.ofNat 32 (data.toNat / 32 * 32) := by
  apply BitVec.eq_of_toNat_eq
  have hdata := data.isLt
  rw [BitVec.toNat_ofNat, Nat.mod_eq_of_lt (by omega)]
  exact toNat_and_not_mask_eq 32 5 data

section Writes
variable {s : State} (hs : s.engine ≠ .init) (r : Ring) (data : Word)
include hs

theorem exec_ringStatusWrite : exec (.ringStatusWrite r data) s = .next
    (if data.getLsbD 5 then s.setRing r { s.ringUnit r with postRefused := false } else s) := by
  change execRingStatusWrite r data s = _
  rw [execRingStatusWrite, State.hostAccess_taken hs]

theorem exec_baseWrite : exec (.baseWrite r data) s = .next (s.ringConfigWrite r fun x =>
    { x with base := BitVec.ofNat 32 (data.toNat / 32 * 32) }) := by
  change execBaseWrite r data s = _
  rw [execBaseWrite, State.hostAccess_taken hs, roundDown_eq]

theorem exec_lengthWrite : exec (.lengthWrite r data) s = .next (s.ringConfigWrite r fun x =>
    { x with length := data.toNat % 512 }) := by
  change execLengthWrite r data s = _
  rw [execLengthWrite, State.hostAccess_taken hs]
  simp only [fieldOf_eq, pow_zero, Nat.div_one, Nat.reducePow]

theorem exec_post : exec (.post r data) s = .next (s.postRecords r (data.extractLsb' 0 8).toNat) := by
  change execPost r data s = _
  rw [execPost, State.hostAccess_taken hs, fieldOf]

end Writes

/-- Settles O54: each write by what it stores, BASE and LENGTH by whether the ring is OFF. -/
theorem ringRegisterWrites : Obligations.RingRegisterWrites := by
  refine ⟨fun s x => ⟨rfl, rfl, rfl, rfl⟩, fun s r data hs => ⟨exec_ringStatusWrite hs r data,
    fun hoff => ⟨?_, ?_⟩, fun hon => ⟨?_, ?_⟩⟩⟩
  · rw [exec_baseWrite hs, ringConfigWrite_off hoff]
  · rw [exec_lengthWrite hs, ringConfigWrite_off hoff]
  · rw [exec_baseWrite hs, ringConfigWrite_on hon]
    rfl
  · rw [exec_lengthWrite hs, ringConfigWrite_on hon]
    rfl

/-! ### POST (R116) -/

/-- A ring with n records more pending, before it fetches (R116). -/
def counted (s : State) (r : Ring) (n : Nat) : State :=
  s.setRing r { s.ringUnit r with pending := (s.ringUnit r).pending + n }

theorem counted_fields (s : State) (r : Ring) (n : Nat) :
    (counted s r n).ringUnit r = { s.ringUnit r with pending := (s.ringUnit r).pending + n }
      ∧ (counted s r n).requests = s.requests := by simp [counted]

section Posts
variable {s : State} {r : Ring}

/-- A post to a ring in OFF is refused (R116). -/
theorem postRecords_off (h : (s.ringUnit r).state = .off) (n : Nat) :
    s.postRecords r n = s.misuse .writeRefused := if_pos h

variable (hon : (s.ringUnit r).state ≠ .off)
include hon

/-- A post of no records does nothing (R116). -/
theorem postRecords_zero : s.postRecords r 0 = s := by simp [State.postRecords, hon]

variable {n : Nat} (hn : n ≠ 0)
include hn

/-- A post that would pass the length counts nothing (R116). -/
theorem postRecords_tooMany (h : (s.ringUnit r).length < (s.ringUnit r).pending + n) :
    s.postRecords r n = s.setRing r { s.ringUnit r with postRefused := true } := by
  simp [State.postRecords, hon, hn, h]

/-- A post that fits is counted, and the ring may fetch (R116, R118). -/
theorem postRecords_counts (h : (s.ringUnit r).pending + n ≤ (s.ringUnit r).length) :
    s.postRecords r n = (counted s r n).tryFetch r := by
  simp [State.postRecords, counted, hon, hn, not_lt.mpr h]

end Posts

/-- Settles O53: the branches of a post, and the fetch that it lets be issued. -/
theorem postCountsRecords : Obligations.PostCountsRecords := by
  intro s r data n hs hdata
  rw [exec_post hs, ← hdata]
  obtain ⟨hring, hreq⟩ := counted_fields s r n
  refine ⟨fun hoff => ?_, fun hon hn => ?_, fun hon hmany hn => ?_, fun hhalted hroom => ?_,
    fun hactive hroom hn hbusy => ?_, fun hactive hroom hn hnone hidle hport => ?_⟩
  · rw [postRecords_off hoff]
    rfl
  · rw [hn, postRecords_zero hon]
  · rw [postRecords_tooMany hon hn hmany]
  · have hon : (s.ringUnit r).state ≠ .off := by simp [hhalted]
    by_cases hn : n = 0
    · rw [hn, postRecords_zero hon]
      exact congrArg _ (setRing_self s r).symm
    · rw [postRecords_counts hon hn hroom, State.tryFetch_held (mayFetch_inactive (by simp [hring, hhalted]))]
      rfl
  · have hheld : (counted s r n).mayFetch r = false := by
      rcases hbusy with hstage | hrequested
      · exact mayFetch_busy (by rwa [hring])
      · exact mayFetch_requested (by rwa [hreq])
    rw [postRecords_counts (by simp [hactive]) hn hroom, State.tryFetch_held hheld]
    rfl
  · have hfetches : (counted s r n).mayFetch r = true := by
      rw [mayFetch_iff, hring, hreq]
      exact ⟨hactive, by simp only; omega, hnone, hidle⟩
    rw [postRecords_counts (by simp [hactive]) hn hroom]
    refine ⟨_, rfl, ?_, fun q hq => setRing_tryFetch_other s _ hq, ?_, by simp [counted]⟩
    · rw [tryFetch_ringUnit, if_pos ⟨rfl, hfetches⟩, hring]
    · rw [tryFetch_requests hfetches (by rwa [hreq]), hreq]
      simp [State.fetchRequest, hring]

/-! ### RING_ENABLE and RING_RESUME (R131, R132) -/

section Commands
variable {s : State} {arg : Byte} (hs : s.engine ≠ .init)
include hs

theorem exec_ringEnable {r : Ring} (h : arg.toNat = ringCode r) :
    exec (.ringEnable arg) s = .next (s.enableRing arg r) := by
  change execRingEnable arg s = _
  simp only [execRingEnable, State.hostAccess_taken hs, State.ringCommand, ringOfArg_some h]

theorem exec_ringEnable_noRing (h : 1 < arg.toNat) :
    exec (.ringEnable arg) s = .next (s.refusedArgument 10 arg) := by
  change execRingEnable arg s = _
  simp only [execRingEnable, State.hostAccess_taken hs, State.ringCommand, ringOfArg_none h]

theorem exec_ringResume {r : Ring} (h : arg.toNat = ringCode r) :
    exec (.ringResume arg) s = .next (s.resumeRing arg r) := by
  change execRingResume arg s = _
  simp only [execRingResume, State.hostAccess_taken hs, State.ringCommand, ringOfArg_some h]

theorem exec_ringResume_noRing (h : 1 < arg.toNat) :
    exec (.ringResume arg) s = .next (s.refusedArgument 11 arg) := by
  change execRingResume arg s = _
  simp only [execRingResume, State.hostAccess_taken hs, State.ringCommand, ringOfArg_none h]

end Commands

section Rings
variable {s : State} {r : Ring} (arg : Byte)

/-- The lengths that RING_ENABLE takes (R131). -/
theorem legalLength_iff (n : Nat) : legalLength n = true ↔ 4 ≤ n ∧ n ≤ 256 := by simp [legalLength]

/-- RING_ENABLE of a ring that is not OFF (R131). -/
theorem enableRing_refused (h : (s.ringUnit r).state ≠ .off) :
    s.enableRing arg r = s.refusedState 10 arg (s.ringUnit r).state.code := if_pos h

/-- RING_ENABLE of a ring of an illegal length (R131). -/
theorem enableRing_invalid (h : (s.ringUnit r).state = .off)
    (hlength : (s.ringUnit r).length < 4 ∨ 256 < (s.ringUnit r).length) :
    s.enableRing arg r = s.setDecision 10 arg .refusedInvalid 0 (BitVec.ofNat 8 (s.ringUnit r).length) := by
  have hillegal : legalLength (s.ringUnit r).length = false := by
    rw [← Bool.not_eq_true, legalLength_iff]
    omega
  simp [State.enableRing, h, hillegal]

/-- RING_ENABLE taken: with nothing pending nothing is fetched (R118, R131). -/
theorem enableRing_done (h : (s.ringUnit r).state = .off) (h4 : 4 ≤ (s.ringUnit r).length)
    (h256 : (s.ringUnit r).length ≤ 256) :
    s.enableRing arg r = (s.setRing r { s.ringUnit r with
      state := .active, head := 0, pending := 0, reason := .none, stage := .none }).setDecision 10 arg .done 0 0 := by
  have hlegal := (legalLength_iff _).mpr ⟨h4, h256⟩
  have hheld : State.mayFetch (s.setRing r { s.ringUnit r with
      state := .active, head := 0, pending := 0, reason := .none, stage := .none }) r = false := by
    simp [State.mayFetch]
  simp [State.enableRing, h, hlegal, State.tryFetch_held hheld, State.done]

/-- RING_RESUME of a ring that is not HALTED (R132). -/
theorem resumeRing_refused (h : (s.ringUnit r).state ≠ .halted) :
    s.resumeRing arg r = s.refusedState 11 arg (s.ringUnit r).state.code := if_pos h

/-- A halted ring taken up again, before it fetches (R132). -/
def resumed (s : State) (r : Ring) : State := s.setRing r { s.ringUnit r with state := .active, reason := .none }

/-- RING_RESUME taken: the ring is ACTIVE, and may fetch (R118, R132). -/
theorem resumeRing_done (h : (s.ringUnit r).state = .halted) :
    s.resumeRing arg r = ((resumed s r).tryFetch r).setDecision 11 arg .done 0 0 := by
  simp [State.resumeRing, h, State.done, resumed]

theorem resumed_fields (s : State) (r : Ring) :
    (resumed s r).ringUnit r = { s.ringUnit r with state := .active, reason := .none }
      ∧ (resumed s r).requests = s.requests := by simp [resumed]

@[simp] theorem setDecision_ringUnit (s : State) (code arg : Byte) (d : Decision) (k : BitVec 4) (i : Byte) (r : Ring) :
    (s.setDecision code arg d k i).ringUnit r = s.ringUnit r := by cases r <;> rfl

end Rings

/-- Settles O51: the refusals in their order, the ring enabled, and the ring resumed with its fetch if it may be
made. -/
theorem ringEnableAndResume : Obligations.RingEnableAndResume := by
  intro arg s r hs
  refine ⟨fun harg => ⟨exec_ringEnable_noRing hs harg, exec_ringResume_noRing hs harg⟩, fun harg => ?_⟩
  rw [exec_ringEnable hs harg, exec_ringResume hs harg]
  refine ⟨fun hon => ?_, fun hoff hlength => ?_, fun hoff h4 h256 => ?_, fun hrun => ?_, fun hhalted hnone => ?_⟩
  · rw [enableRing_refused arg hon]
    rfl
  · rw [enableRing_invalid arg hoff hlength]
    rfl
  · rw [enableRing_done arg hoff h4 h256]
  · rw [resumeRing_refused arg hrun]
    rfl
  · rw [resumeRing_done arg hhalted]
    obtain ⟨hring, hreq⟩ := resumed_fields s r
    have hafter := tryFetch_ringUnit (resumed s r) r r
    rw [hring] at hafter
    refine ⟨_, rfl, by simp [State.setDecision, resumed], fun hidle => ?_, fun hpending hidle hport => ?_, ?_⟩
    · have hheld : (resumed s r).mayFetch r = false := by
        rcases hidle with hpending | hrequested
        · simp [State.mayFetch, hring, hpending]
        · exact mayFetch_requested (by rwa [hreq])
      rw [State.tryFetch_held hheld, setDecision_ringUnit]
      exact ⟨hring, hreq⟩
    · have hfetches : (resumed s r).mayFetch r = true := by
        rw [mayFetch_iff, hring, hreq]
        exact ⟨rfl, hpending, hnone, hidle⟩
      rw [if_pos ⟨rfl, hfetches⟩] at hafter
      have hqueue := tryFetch_requests hfetches (by rwa [hreq])
      rw [hreq] at hqueue
      exact ⟨by simpa using hafter, by simpa [State.fetchRequest, hring] using hqueue⟩
    · have hothers (o : Ring) (ho : o ≠ r) : ((resumed s r).tryFetch r).ringUnit o = s.ringUnit o :=
        setRing_tryFetch_other s _ ho
      simp only [setDecision_ringUnit, hafter]
      refine ⟨?_, ?_, ?_, ?_, ?_, hothers, by simp [State.setDecision, resumed]⟩ <;> split <;> rfl

end Sys2Proof.Machine.AcyclicRings
end

section
namespace Sys2Proof.Machine.MemoryMaster
open TheCycle

/-! ### The answers before the last (R138, R139, R141) -/

section Answer
variable {s : State} {q : Request} {rest : List Request} (hq : s.requests = q :: rest) (hbegun : q.begun = true)
include hq hbegun

/-- An answer before the last gives its word to the request, which stays on the port (R138). -/
theorem exec_earlierAnswer (hmore : q.answered + 1 < q.transfers.length) (word : Word) :
    exec (.memoryTransferAnswer true word) s = .next { s with requests := answeredWith q word :: rest } := by
  change Host.Outcome.next (s.transferAnswered true word) = _
  have hopen : (!q.begun) = false := by rw [hbegun, Bool.not_true]
  simp only [State.transferAnswered, hq, hopen, Bool.false_eq_true, if_false]
  exact congrArg _ (if_neg (Nat.not_le.mpr hmore))

/-- The port carries the begun request's transfer after those answered (R138). -/
theorem portTransfer_begun : s.portTransfer = q.transfers[q.answered]? := by
  simp only [State.portTransfer, hq, hbegun, if_true]

end Answer

/-- A RECORD_READ reads word 4 before the words of the record that it guards (R139). -/
theorem transfers_recordRead {q : Request} (hkind : q.kind = .recordRead) :
    q.transfers = [16, 0, 4, 8, 12, 20].map fun k =>
      { address := q.address + BitVec.ofNat 32 k, write := false, lane := 0, count := 4, data := [] } := by
  simp only [Request.transfers, hkind]

/-- A STATUS_WRITE writes word 5 before word 4 (R141). -/
theorem transfers_statusWrite {q : Request} (hkind : q.kind = .statusWrite) :
    q.transfers =
      [{ address := q.address + 4, write := true, lane := 0, count := 4, data := q.data.drop 4 },
       { address := q.address, write := true, lane := 0, count := 4, data := q.data.take 4 }] := by
  simp only [Request.transfers, hkind]

/-- Settles O34: an answer before the last leaves the request on the port, and the two fixed orders of transfers. -/
theorem transferAnswersRunThroughTheRequest : Obligations.TransferAnswersRunThroughTheRequest := by
  refine ⟨fun s q rest word hq hbegun hmore => exec_earlierAnswer hq hbegun hmore word, fun q hkind => ?_,
    fun s q rest hq hbegun => portTransfer_begun hq hbegun, fun q hkind _ => ?_⟩
  · rw [transfers_recordRead hkind]
    simp
  · rw [transfers_statusWrite hkind]
    simp

/-! ### The transfers of a run of bytes (R140) -/

/-- The transfer that reaches the bytes of a run within its first aligned word, `here` in number. -/
def firstTransfer (write : Bool) (address : Word) (here : Nat) (data : List Byte) : Transfer :=
  { address := address - BitVec.ofNat 32 (address.toNat % 4), write := write, lane := address.toNat % 4,
    count := here, data := data.take here }

/-- A run within one aligned word takes one transfer. -/
theorem spans_within {address : Word} {count : Nat} (h : address.toNat % 4 + count ≤ 4) (fuel : Nat) (write : Bool)
    (data : List Byte) : spans (fuel + 1) write address count data = [firstTransfer write address count data] := by
  have hhere : min count (4 - address.toNat % 4) = count := by omega
  simp only [spans, hhere, le_refl, if_true, firstTransfer]

/-- A run past its first aligned word takes a transfer to that word's end, and goes on from there. -/
theorem spans_across {address : Word} {count here : Nat} (hend : address.toNat % 4 + here = 4) (hmore : here < count)
    (fuel : Nat) (write : Bool) (data : List Byte) :
    spans (fuel + 1) write address count data =
      firstTransfer write address here data
        :: spans fuel write (address + BitVec.ofNat 32 here) (count - here) (data.drop here) := by
  have hhere : min count (4 - address.toNat % 4) = here := by omega
  simp only [spans, hhere, if_neg (Nat.not_le.mpr hmore), firstTransfer]

/-- The induction over the aligned words of a run of bytes, upward: what holds of a run within one aligned word, and
of a longer run when it holds of what is left past the first aligned word, holds of the transfers of every run. -/
theorem spans_induction {write : Bool} {motive : Word → Nat → List Byte → List Transfer → Prop}
    (within : ∀ address count data, 1 ≤ count → address.toNat % 4 + count ≤ 4 →
      motive address count data [firstTransfer write address count data])
    (across : ∀ address count data here transfers, address.toNat % 4 + here = 4 → here < count →
      motive (address + BitVec.ofNat 32 here) (count - here) (data.drop here) transfers →
      motive address count data (firstTransfer write address here data :: transfers))
    (fuel : Nat) (address : Word) (count : Nat) (data : List Byte) (hcount : 1 ≤ count) (hfuel : count ≤ fuel) :
    motive address count data (spans fuel write address count data) := by
  induction fuel generalizing address count data with
  | zero => omega
  | succ fuel ih =>
    by_cases hfits : address.toNat % 4 + count ≤ 4
    · rw [spans_within hfits]
      exact within address count data hcount hfits
    · obtain ⟨here, hend⟩ : ∃ here, address.toNat % 4 + here = 4 := ⟨4 - address.toNat % 4, by omega⟩
      rw [spans_across hend (by omega)]
      exact across _ _ _ _ _ hend (by omega) (ih _ _ _ (by omega) (by omega))

/-- Past the end of its first aligned word a run goes on at an aligned address. -/
theorem next_aligned {address : Word} {here : Nat} (hend : address.toNat % 4 + here = 4) :
    (address + BitVec.ofNat 32 here).toNat % 4 = 0 := by
  simp only [BitVec.toNat_add, BitVec.toNat_ofNat]
  omega

/-- The aligned word of an address. -/
theorem word_aligned (address : Word) : (address - BitVec.ofNat 32 (address.toNat % 4)).toNat % 4 = 0 := by
  simp only [BitVec.toNat_sub, BitVec.toNat_ofNat]
  omega

/-- The addresses of a run of bytes, upward, modulo 2^32. -/
def addresses (address : Word) (count : Nat) : List Word := (List.range count).map fun j => address + BitVec.ofNat 32 j

theorem addresses_add (address : Word) (m n : Nat) :
    addresses address (m + n) = addresses address m ++ addresses (address + BitVec.ofNat 32 m) n := by
  simp [addresses, List.range_add, BitVec.ofNat_add, BitVec.add_assoc]

/-- The addresses of the bytes that a transfer reaches. -/
def reached (x : Transfer) : List Word := (List.range x.count).map fun j => x.address + BitVec.ofNat 32 (x.lane + j)

theorem reached_firstTransfer (write : Bool) (address : Word) (here : Nat) (data : List Byte) :
    reached (firstTransfer write address here data) = addresses address here := by
  refine List.map_congr_left fun j _ => ?_
  change address - BitVec.ofNat 32 (address.toNat % 4) + BitVec.ofNat 32 (address.toNat % 4 + j) = _
  rw [BitVec.ofNat_add, ← BitVec.add_assoc, BitVec.sub_add_cancel]

section Run
variable (write : Bool) (address : Word) {count : Nat} (data : List Byte) (hcount : 1 ≤ count)
include hcount

/-- As many transfers as aligned words that the run touches. -/
theorem length_spans : (spans count write address count data).length = (address.toNat % 4 + count + 3) / 4 := by
  refine spans_induction
    (motive := fun address count _ transfers => transfers.length = (address.toNat % 4 + count + 3) / 4)
    (fun address count _ hcount hfits => ?within) (fun address count _ here transfers hend hmore ih => ?across)
    count address count data hcount le_rfl
  case within =>
    rw [List.length_singleton]
    omega
  case across =>
    rw [List.length_cons, ih, next_aligned hend]
    omega

/-- The transfers reach the run's bytes, in ascending order, and no others. -/
theorem reached_spans : (spans count write address count data).flatMap reached = addresses address count := by
  refine spans_induction (motive := fun address count _ transfers => transfers.flatMap reached = addresses address count)
    (fun address count data _ _ => ?within) (fun address count data here transfers _ hmore ih => ?across)
    count address count data hcount le_rfl
  case within => rw [List.flatMap_singleton, reached_firstTransfer]
  case across =>
    rw [List.flatMap_cons, reached_firstTransfer, ih, ← addresses_add, Nat.add_sub_cancel' hmore.le]

/-- Each transfer lies within one aligned word, and writes as the run does. -/
theorem within_word_of_mem_spans : ∀ x ∈ spans count write address count data,
    x.address.toNat % 4 = 0 ∧ x.lane + x.count ≤ 4 ∧ x.write = write := by
  refine spans_induction
    (motive := fun _ _ _ transfers => ∀ x ∈ transfers, x.address.toNat % 4 = 0 ∧ x.lane + x.count ≤ 4 ∧ x.write = write)
    (fun address _ _ _ hfits => ?within) (fun address _ _ here transfers hend _ ih => ?across)
    count address count data hcount le_rfl
  case within => exact List.forall_mem_singleton.mpr ⟨word_aligned address, hfits, rfl⟩
  case across => exact List.forall_mem_cons.mpr ⟨⟨word_aligned address, hend.le, rfl⟩, ih⟩

/-- The transfers carry the run's data, in order. -/
theorem data_spans (hdata : data.length = count) : (spans count write address count data).flatMap (·.data) = data := by
  refine spans_induction
    (motive := fun _ count data transfers => data.length = count → transfers.flatMap (·.data) = data)
    (fun _ count data _ _ hdata => ?within) (fun _ count data here transfers _ _ ih hdata => ?across)
    count address count data hcount le_rfl hdata
  case within => rw [List.flatMap_singleton, firstTransfer, List.take_of_length_le hdata.le]
  case across => rw [List.flatMap_cons, firstTransfer, ih (by rw [List.length_drop, hdata]), List.take_append_drop]

end Run

/-- The transfers of a DATA_READ or DATA_WRITE are those of its run of bytes (R140). -/
theorem transfers_data {q : Request} (hkind : q.kind = .dataRead ∨ q.kind = .dataWrite) :
    q.transfers = spans q.count (decide (q.kind = .dataWrite)) q.address q.count
      (if q.kind = .dataWrite then q.data else []) := by
  rcases hkind with hkind | hkind <;> simp [Request.transfers, hkind]

/-- Settles O35: the transfers are those of a run of bytes, aligned word by aligned word. -/
theorem dataTransfersCoverTheirBytes : Obligations.DataTransfersCoverTheirBytes := by
  intro q hkind hcount
  rw [transfers_data hkind]
  refine ⟨length_spans _ _ _ hcount, reached_spans _ _ _ hcount, within_word_of_mem_spans _ _ _ hcount,
    fun hwrite hdata => ?_⟩
  rw [if_pos hwrite]
  exact data_spans _ _ _ hcount hdata

end Sys2Proof.Machine.MemoryMaster
end

section
namespace Sys2Proof.Machine.FaultAccounting
open TheCycle

/-! ### Posts by the room in the queue (R165, R168, R171) -/

section Posts
variable {s : State} (e : Entry)

/-- A queue with room takes the entry last (R165). -/
theorem post_room_queue (h : s.queueFull = false) :
    (s.post e).queue = { s.queue with entries := s.queue.entries ++ [e] } := by
  rw [State.post_room e h]
  split
  · rfl
  · rfl

/-- A placed entry sets NOTIFY when the count after it reaches the threshold, and no other flag (R168). -/
theorem post_room_flag (h : s.queueFull = false) (g : IntFlag) :
    (s.post e).flag g =
      (s.flag g || (decide (g = .notify) && decide (s.settings.notifyThreshold ≤ s.queue.entries.length + 1))) := by
  rw [State.post_room e h]
  split
  case isTrue hreached =>
    simp only [State.flag_raise, hreached, decide_true, Bool.and_true]
    exact Bool.or_comm ..
  case isFalse hbelow =>
    simp only [hbelow, decide_false, Bool.and_false, Bool.or_false]
    rfl

/-- A full queue counts the refused entry, to 255 at most (R171). -/
theorem post_full_queue (h : s.queueFull = true) :
    (s.post e).queue = { s.queue with overflow := min 255 (s.queue.overflow + 1) } := by
  rw [State.post_full e h]
  rfl

/-- A refused entry sets OVERFLOW and no other flag (R171). -/
theorem post_full_flag (h : s.queueFull = true) (g : IntFlag) :
    (s.post e).flag g = (s.flag g || decide (g = .overflow)) := by
  rw [State.post_full e h, State.flag_raise]
  exact Bool.or_comm ..

end Posts

/-! ### Sticky sets (R151) -/

section StickySets
variable (s : State) {a : Address} (k : KindSet)

/-- Kinds join the sticky set of their station's record. -/
theorem addSticky_station_same (h1 : 1 ≤ a.toNat) (h62 : a.toNat ≤ 62) :
    (s.addSticky a k).station a = { s.station a with sticky := (s.station a).sticky ||| k } := by
  rw [State.addSticky, State.station_setStation, if_pos ⟨rfl, h1, h62⟩]

/-- Kinds that join a sticky set leave every flag as it is. -/
theorem addSticky_flag (g : IntFlag) : (s.addSticky a k).flag g = s.flag g :=
  State.flag_congr (by simp) g

/-- No kinds leave a sticky set as it is. -/
theorem addSticky_none : s.addSticky a 0 = s := by
  have hsame : (s.station a).sticky ||| 0 = (s.station a).sticky := BitVec.or_zero
  rw [State.addSticky, hsame]
  exact setStation_self s a

/-- A record replaced twice is the later one. -/
theorem setStation_setStation (r r' : Station) : (s.setStation a r).setStation a r' = s.setStation a r' := by
  unfold State.setStation
  cases recordIndex? a with
  | none => rfl
  | some i => simp

/-- Two additions to a sticky set are one addition of their union. -/
theorem addSticky_addSticky (h1 : 1 ≤ a.toNat) (h62 : a.toNat ≤ 62) (k' : KindSet) :
    (s.addSticky a k).addSticky a k' = s.addSticky a (k ||| k') := by
  rw [State.addSticky, addSticky_station_same s k h1 h62, State.addSticky, setStation_setStation, State.addSticky,
    BitVec.or_assoc]

end StickySets

/-! ### The split by the alert mask (R151 to R154) -/

/-- The kinds in the mask and those outside it are all the kinds. -/
theorem split_union (k mask : KindSet) : k &&& mask ||| k &&& ~~~mask = k := by
  ext i
  cases hk : k[i] <;> cases hm : mask[i] <;> simp [hk, hm]

/-- The ALERT entry of an accounting, with the alert part as its cause set (R152). -/
def alertEntry (s : State) (a : Address) (kinds : KindSet) (source : Entry) : Entry :=
  { source with station := a, cycle := s.cycle.number, causes := kinds &&& (s.station a).alertMask }

section Accounting
variable (s : State) {a : Address} {kinds : KindSet} (source : Entry)

/-- An accounting of no kinds changes nothing (R149). -/
theorem account_none : s.account a 0 source = s := if_pos rfl

/-- An accounting with no kind in the alert mask adds them all to the sticky set (R151). -/
theorem account_unmasked (h : kinds &&& (s.station a).alertMask = 0) :
    s.account a kinds source = s.addSticky a kinds := by
  by_cases hnone : kinds = 0
  · subst hnone
    rw [account_none, addSticky_none]
  · have hsticky : kinds &&& ~~~(s.station a).alertMask = kinds := by
      simpa [h] using split_union kinds (s.station a).alertMask
    simp only [State.account, hnone, h, hsticky, if_true, if_false]

/-- An accounting with a kind in the alert mask posts the alert part first (R151). -/
theorem account_masked (h : kinds &&& (s.station a).alertMask ≠ 0) :
    s.account a kinds source =
      (s.alert (alertEntry s a kinds source)).addSticky a (kinds &&& ~~~(s.station a).alertMask) := by
  have hsome : kinds ≠ 0 := by
    rintro rfl
    exact h BitVec.zero_and
  simp only [State.account, hsome, h, if_false, alertEntry]

/-- With room in the queue the alert part is in the entry, and the rest joins the sticky set (R151, R154). -/
theorem account_placed (h : kinds &&& (s.station a).alertMask ≠ 0) (hroom : s.queueFull = false) :
    s.account a kinds source =
      ((s.post (alertEntry s a kinds source)).raise .alert).addSticky a
        (kinds &&& ~~~(s.station a).alertMask) := by
  simp only [account_masked s source h, State.alert, hroom, Bool.false_eq_true, if_false]

/-- A full queue refuses the entry, and all kinds join the sticky set (R153). -/
theorem account_refused (h1 : 1 ≤ a.toNat) (h62 : a.toNat ≤ 62) (h : kinds &&& (s.station a).alertMask ≠ 0)
    (hfull : s.queueFull = true) :
    s.account a kinds source = (s.post (alertEntry s a kinds source)).addSticky a kinds := by
  rw [account_masked s source h, State.alert, if_pos hfull]
  change ((s.post _).addSticky a (kinds &&& (s.station a).alertMask)).addSticky a _ = _
  rw [addSticky_addSticky _ _ h1 h62, split_union]

/-- An accounting leaves every other record (R151). -/
theorem account_station_other {b : Address} (h : b ≠ a) : (s.account a kinds source).station b = s.station b := by
  obtain ⟨sticky, hrecord, hsame⟩ := account_station s a b kinds source
  rw [hrecord, hsame h]

/-- An accounting changes the Station Table, the queue and the flags alone (R151). -/
theorem account_keepsRest :
    { s.account a kinds source with
      stations := s.stations, queue := s.queue
      host := { (s.account a kinds source).host with intPending := s.host.intPending } } = s := by
  simp

end Accounting

/-- Settles O49: no kinds, no kind in the mask, an alert part placed, and an alert part refused. -/
theorem accountingSplitsByTheAlertMask : Obligations.AccountingSplitsByTheAlertMask := by
  rintro s a kinds source _ h1 h62 rfl
  refine ⟨?none, fun hunmasked => ?unmasked, fun hmasked hlength => ?placed, fun hmasked hlength => ?refused,
    fun b hb => account_station_other s source hb, account_keepsRest s source⟩
  case none =>
    rintro rfl
    exact account_none s source
  case unmasked =>
    rw [account_unmasked s source hunmasked]
    exact ⟨addSticky_station_same s kinds h1 h62, by simp, by simp⟩
  case placed =>
    have hroom : s.queueFull = false := decide_eq_false (not_le.mpr hlength)
    rw [account_placed s source hmasked hroom]
    refine ⟨?_, ?_, ?_, ?_, fun f halert hnotify => ?_⟩
    · rw [addSticky_station_same _ _ h1 h62, station_raise, station_post]
    · simp [post_room_queue _ hroom, alertEntry]
    · simp [addSticky_flag]
    · simp [addSticky_flag, post_room_flag _ hroom]
    · simp [addSticky_flag, post_room_flag _ hroom, halert, hnotify]
  case refused =>
    have hfull : s.queueFull = true := decide_eq_true hlength
    rw [account_refused s source h1 h62 hmasked hfull]
    refine ⟨?_, ?_, ?_, fun f hoverflow => ?_⟩
    · rw [addSticky_station_same _ _ h1 h62, station_post]
    · simp [post_full_queue _ hfull]
    · simp [addSticky_flag, post_full_flag _ hfull]
    · simp [addSticky_flag, post_full_flag _ hfull, hoverflow]

end Sys2Proof.Machine.FaultAccounting
end

section
namespace Sys2Proof.Machine.QueueAndInterrupts
open TheCycle

/-! ### What an event leaves of the engine and of the queue (R164, R186, R188) -/

/-- What R188 says of the part once it has entered HALTED. -/
structure HaltedEntered (t : State) : Prop where
  flag : t.flag .halted = true
  swapPending : t.schedule.swapPending = false
  receiver : t.line.rx.state = .idle
  lateWatch : t.lateWatch = none

/-- What R186 says of the part once it has entered LINE_FAULT. -/
structure FaultEntered (t : State) : Prop where
  flag : t.flag .line = true
  context : t.context = none
  want : t.cycle.want = none
  owed : t.cycle.owed = false

/-- The engine state stands, and the queue keeps its bounds. -/
structure Steady (t s : State) : Prop where
  engine : t.engine = s.engine
  bounds : s.queueBounded → t.queueBounded

/-- The engine enters HALTED, but from INIT, and LINE_FAULT as R188 and R186 say, and the queue keeps its bounds. -/
structure Moves (t s : State) : Prop where
  halted : s.engine ≠ .halted → s.engine ≠ .init → t.engine = .halted → HaltedEntered t
  lineFault : s.engine ≠ .lineFault → t.engine = .lineFault → FaultEntered t
  bounds : s.queueBounded → t.queueBounded

/-- A change outside the engine state and the queue. -/
theorem steady_of_frame {t s : State} (hengine : t.engine = s.engine) (hqueue : t.queue = s.queue) : Steady t s :=
  ⟨hengine, fun hs => by rwa [State.queueBounded, hqueue]⟩

theorem Steady.refl (s : State) : Steady s s := steady_of_frame rfl rfl

theorem Steady.trans {t u s : State} (h : Steady t u) (h' : Steady u s) : Steady t s :=
  ⟨h.engine.trans h'.engine, h.bounds ∘ h'.bounds⟩

/-- With the engine state as it was, no state is entered. -/
theorem Steady.moves {t s : State} (h : Steady t s) : Moves t s :=
  ⟨fun hs _ ht => absurd (h.engine.symm.trans ht) hs, fun hs ht => absurd (h.engine.symm.trans ht) hs, h.bounds⟩

theorem moves_of_frame {t s : State} (hengine : t.engine = s.engine) (hqueue : t.queue = s.queue) : Moves t s :=
  (steady_of_frame hengine hqueue).moves

theorem Moves.refl (s : State) : Moves s s := (Steady.refl s).moves

/-- The engine moves after a change that left its state as it was. -/
theorem Moves.after {t u s : State} (h : Moves t u) (h' : Steady u s) : Moves t s := by
  obtain ⟨hhalted, hfault, hbounds⟩ := h
  rw [h'.engine] at hhalted hfault
  exact ⟨hhalted, hfault, hbounds ∘ h'.bounds⟩

/-- The engine goes on to a state other than HALTED and LINE_FAULT. -/
theorem moves_of_working {t s : State} (hhalted : t.engine ≠ .halted) (hfault : t.engine ≠ .lineFault)
    (hbounds : s.queueBounded → t.queueBounded) : Moves t s :=
  ⟨fun _ _ ht => absurd ht hhalted, fun _ ht => absurd ht hfault, hbounds⟩

/-- A decision and a collision streak touch nothing of an entry (R179, R187). -/
theorem Moves.note {u s : State} (h : Moves u s) (streak : Nat) (decision : CommandStatus) :
    Moves { u with line := { u.line with streak := streak }, host := { u.host with commandStatus := decision } } s where
  halted hs hinit ht :=
    have ⟨hflag, hswap, hreceiver, hwatch⟩ := h.halted hs hinit ht
    ⟨hflag, hswap, hreceiver, hwatch⟩
  lineFault hs ht :=
    have ⟨hflag, hcontext, hwant, howed⟩ := h.lineFault hs ht
    ⟨hflag, hcontext, hwant, howed⟩
  bounds := h.bounds

theorem Moves.done {u s : State} (h : Moves u s) (code arg : Byte) : Moves (u.done code arg) s :=
  h.note u.line.streak _

/-! ### Posts (R68, R74, R77, R98, R106, R130, R151 to R155, R165, R168) -/

theorem post_steady (s : State) (e : Entry) : Steady (s.post e) s :=
  ⟨by simp, fun ⟨hlength, hoverflow⟩ => s.post_bounds e hlength hoverflow⟩

theorem raise_steady (s : State) (f : IntFlag) : Steady (s.raise f) s := steady_of_frame (by simp) (by simp)

theorem setStation_steady (s : State) (a : Address) (r : Station) : Steady (s.setStation a r) s :=
  steady_of_frame (by simp) (by simp)

theorem postStation_steady (s : State) (a : Address) (code : BitVec 5) (duplicate : Bool) :
    Steady (s.postStation a code duplicate) s := post_steady ..

theorem enterLost_steady (s : State) (a : Address) : Steady (s.enterLost a) s :=
  (postStation_steady ..).trans (setStation_steady ..)

theorem supervise_steady (s : State) (a : Address) (answered : Bool) : Steady (s.supervise a answered) s := by
  unfold State.supervise
  dsimp only
  split
  · exact .refl s
  · split
    · exact setStation_steady ..
    · split
      · exact enterLost_steady ..
      · exact setStation_steady ..

theorem alert_steady (s : State) (e : Entry) : Steady (s.alert e) s := by
  unfold State.alert
  split
  · exact (setStation_steady ..).trans (post_steady s e)
  · exact (raise_steady ..).trans (post_steady s e)

theorem account_steady (s : State) (a : Address) (kinds : KindSet) (e : Entry) : Steady (s.account a kinds e) s := by
  unfold State.account
  split
  · exact .refl s
  · refine (setStation_steady ..).trans ?_
    split
    · exact .refl s
    · exact alert_steady ..

theorem slotResult_steady (s : State) (i : Fin 32) (result : Result) (causes : KindSet) (payload : List Byte) :
    Steady (s.slotResult i result causes payload) s := by
  have hentry : Steady (s.afterSlotEntry i result causes) s := by
    unfold State.afterSlotEntry
    split
    · exact post_steady ..
    · exact .refl s
  obtain ⟨-, hqueue, -⟩ := s.slotResult_handsOn i result causes payload
  exact ⟨by simp, fun hs => by rw [State.queueBounded, hqueue]; exact hentry.bounds hs⟩

theorem applySwap_steady (s : State) : Steady s.applySwap s :=
  (post_steady ..).trans (by exact steady_of_frame rfl rfl)

theorem applyPendingSwap_steady (s : State) : Steady s.applyPendingSwap s := by
  unfold State.applyPendingSwap
  split
  · exact applySwap_steady s
  · exact .refl s

theorem haltRing_steady (s : State) (r : Ring) (reason : HaltReason) (index : Byte) (failed : Option RingRecord) :
    Steady (s.haltRing r reason index failed) s :=
  (post_steady ..).trans ((raise_steady ..).trans (steady_of_frame (by simp) (by simp)))

/-! ### The entries to HALTED and LINE_FAULT (R186, R188) -/

theorem enterHalted_moves (s : State) : Moves s.enterHalted s where
  halted _ _ _ := ⟨by simp, by simp, by simp, by simp⟩
  lineFault _ ht := by simp at ht
  bounds hs := by
    unfold State.enterHalted
    exact (raise_steady ..).bounds ((applyPendingSwap_steady _).bounds hs)

/-! ### The end of an exchange (R54, R57, R61, R62) -/

theorem accountExchange_steady (s : State) (e : Exchange) : Steady (s.accountExchange e) s := by
  unfold State.accountExchange
  split
  · exact .refl s
  · split
    · exact account_steady ..
    · exact account_steady ..
    · exact .refl s

theorem superviseExchange_steady (s : State) (e : Exchange) : Steady (s.superviseExchange e) s := by
  unfold State.superviseExchange
  split
  · exact supervise_steady ..
  · exact .refl s

theorem sourceTakes_steady (s : State) (e : Exchange) (result : Result) (reply : Option Reply) :
    Steady (s.sourceTakes e result reply) s := by
  unfold State.sourceTakes
  split
  · exact slotResult_steady ..
  · split
    · exact .refl s
    · split
      · exact .refl s
      · exact steady_of_frame (by simp) (by simp)
  · exact .refl s

theorem emptyContext_moves (s : State) (source : Source) : Moves (s.emptyContext source) s := by
  have hempty : Steady { s with context := none } s := steady_of_frame rfl rfl
  unfold State.emptyContext
  dsimp only
  split
  · exact (enterHalted_moves _).after hempty
  · split
    · split
      · exact moves_of_frame (by simp) (by simp)
      · exact hempty.moves
    · exact moves_of_frame (by simp) (by simp)
    · exact moves_of_frame (by simp) (by simp)
  all_goals exact hempty.moves

/-- What every stay's end makes first (R54, R57). -/
theorem stayEnd_steady (s : State) (e : Exchange) : Steady ((s.superviseExchange e).accountExchange e) s :=
  (accountExchange_steady ..).trans (superviseExchange_steady ..)

theorem endExchange_moves (s : State) (e : Exchange) (result : Result) (reply : Option Reply) :
    Moves (s.endExchange e result reply) s :=
  (emptyContext_moves ..).after ((sourceTakes_steady ..).trans (stayEnd_steady ..))

theorem returnToStaging_moves (s : State) (e : Exchange) : Moves (s.returnToStaging e) s := by
  unfold State.returnToStaging
  refine (emptyContext_moves ..).after (Steady.trans ?_ (stayEnd_steady s e))
  split
  · split
    · exact .refl _
    · exact steady_of_frame (by simp) (by simp)
  · exact .refl _
  · exact .refl _

theorem interrupt_steady (s : State) (result : Result) : Steady (s.interrupt result) s := by
  unfold State.interrupt
  split
  · exact .refl s
  · rename_i e _
    have htaken : Steady ((s.accountExchange e).sourceTakes e result none) s :=
      (sourceTakes_steady ..).trans (accountExchange_steady ..)
    exact ⟨htaken.engine, htaken.bounds⟩

theorem enterLineFault_moves (s : State) (code : BitVec 5) : Moves (s.enterLineFault code) s where
  halted _ _ ht := by simp at ht
  lineFault _ _ := ⟨by simp, by simp, by simp, by simp⟩
  bounds hs := by
    unfold State.enterLineFault
    exact (raise_steady ..).bounds ((post_steady ..).bounds ((interrupt_steady s .lineFault).bounds hs))

theorem concludeTry_moves (s : State) (e : Exchange) (o : TryOutcome) (reply : Option Reply) :
    Moves (s.concludeTry e o reply) s := by
  unfold State.concludeTry
  dsimp only
  split
  · exact moves_of_frame rfl rfl
  · split
    · exact returnToStaging_moves ..
    · exact endExchange_moves ..

theorem takeExpiry_moves (s : State) (e : Exchange) : Moves (s.takeExpiry e) s := by
  unfold State.takeExpiry
  split
  · exact emptyContext_moves ..
  · exact (concludeTry_moves ..).after (steady_of_frame rfl rfl)

/-! ### The receiver (R14 to R20, R46 to R49, R60) -/

theorem takeIdentity_steady (s : State) (a : Address) (id : Identity) : Steady (s.takeIdentity a id) s := by
  have hjoin : Steady (s.join a id) s := (postStation_steady ..).trans (setStation_steady ..)
  unfold State.takeIdentity
  dsimp only
  split
  · exact hjoin
  · split
    · exact (postStation_steady ..).trans (setStation_steady ..)
    · exact hjoin
  all_goals exact .refl s

theorem takeRollReply_steady (s : State) (e : Exchange) (f : FrameReport) : Steady (s.takeRollReply e f) s := by
  unfold State.takeRollReply
  split
  · exact takeIdentity_steady ..
  · exact postStation_steady ..

theorem frameAbandoned_moves (s : State) : Moves s.frameAbandoned s := by
  unfold State.frameAbandoned
  split
  · split
    · exact (emptyContext_moves ..).after (postStation_steady ..)
    · exact concludeTry_moves ..
  · exact moves_of_frame rfl rfl

theorem frameEnd_moves (s : State) (f : FrameReport) : Moves (s.frameEnd f) s := by
  have hlate : Steady { s with lateFrame := none } s := steady_of_frame rfl rfl
  unfold State.frameEnd
  split
  · split
    · exact (emptyContext_moves ..).after (takeRollReply_steady ..)
    · exact concludeTry_moves ..
  · dsimp only
    split
    · split
      · exact ((account_steady ..).trans hlate).moves
      · exact hlate.moves
    · exact hlate.moves

theorem setReceiver_steady (s : State) (x : Receiver) : Steady (s.setReceiver x) s :=
  steady_of_frame (by simp) (by simp)

theorem abandonFrame_moves (s : State) : Moves s.abandonFrame s :=
  (frameAbandoned_moves _).after (setReceiver_steady ..)

theorem takeFrameByte_moves (s : State) (b : Byte) : Moves (s.takeFrameByte b) s := by
  have hreceiver (x : Receiver) := setReceiver_steady s x
  unfold State.takeFrameByte
  dsimp only
  split
  · exact (hreceiver _).moves
  · split
    · exact (hreceiver _).moves
    · split
      · split
        · exact (abandonFrame_moves _).after (hreceiver _)
        · exact (hreceiver _).moves
      · split
        · exact (hreceiver _).moves
        · split
          · exact (hreceiver _).moves
          · exact (frameEnd_moves ..).after (hreceiver _)

theorem takeHeldExpiry_moves (s : State) : Moves s.takeHeldExpiry s := by
  unfold State.takeHeldExpiry
  split
  · split
    · exact takeExpiry_moves ..
    · exact .refl s
  · exact .refl s

theorem syncArrival_steady (s : State) : Steady s.syncArrival s := by
  unfold State.syncArrival
  split
  · split <;> exact steady_of_frame rfl rfl
  · exact steady_of_frame rfl rfl

theorem receiveCell_moves (s : State) (cell : Cell) : Moves (s.receiveCell cell) s := by
  unfold State.receiveCell
  split
  · exact .refl s
  · split
    · split
      · exact ((syncArrival_steady _).trans (setReceiver_steady ..)).moves
      · exact takeHeldExpiry_moves s
    · exact takeHeldExpiry_moves s
    · exact takeFrameByte_moves ..
    · exact abandonFrame_moves s
    · exact takeHeldExpiry_moves s

theorem startBit_steady (s : State) : Steady s.startBit s := by
  unfold State.startBit
  split
  · exact steady_of_frame rfl rfl
  · exact .refl s

theorem elapse_steady (s : State) (k : Nat) : Steady (s.elapse k) s := steady_of_frame (by simp) (by simp)

theorem cellArrives_moves (s : State) (cell : Cell) : Moves (s.cellArrives cell) s := by
  have hstart : Steady (if s.line.cell.isNone then s.startBit else s) s := by
    split
    · exact startBit_steady s
    · exact .refl s
  unfold State.cellArrives
  generalize (if s.line.cell.isNone then s.startBit else s) = v at *
  dsimp only
  split
  · exact hstart.moves
  · have hend (u : State) : Steady (u.endCell cell) u := steady_of_frame rfl rfl
    exact (receiveCell_moves ..).after ((hend _).trans ((elapse_steady ..).trans hstart))

/-! ### Transmissions that end (R10, R11, R25, R26, R43, R58) -/

theorem markCut_moves (s : State) : Moves s.markCut s := by
  have hcycle (c : CycleUnit) : Steady { s with cycle := c } s := steady_of_frame rfl rfl
  unfold State.markCut
  dsimp only
  split
  · exact (enterLineFault_moves ..).after (hcycle _)
  · split
    · exact (hcycle _).moves
    · exact (enterHalted_moves _).after (hcycle _)
    all_goals exact (hcycle _).moves

theorem tryCut_moves (s : State) : Moves s.tryCut s := by
  have hcontext (x : Option Exchange) : Steady { s with context := x } s := steady_of_frame rfl rfl
  unfold State.tryCut
  split
  · split
    · exact enterLineFault_moves ..
    · exact .refl s
  · dsimp only
    split
    · exact (enterLineFault_moves ..).after (hcontext _)
    · split
      · exact emptyContext_moves ..
      · exact concludeTry_moves ..

theorem markComplete_moves (s : State) : Moves s.markComplete s := by
  have hcycle (c : CycleUnit) : Steady { s with cycle := c } s := steady_of_frame rfl rfl
  unfold State.markComplete
  dsimp only
  split
  · exact moves_of_frame (by simp) (by simp)
  · exact (enterHalted_moves _).after (hcycle _)
  all_goals exact (hcycle _).moves

theorem tryComplete_moves (s : State) : Moves s.tryComplete s := by
  unfold State.tryComplete
  split
  · exact .refl s
  · split
    · exact endExchange_moves ..
    · exact moves_of_frame rfl rfl

/-! ### The walk, the selection and the mark (R24, R31 to R36) -/

theorem skipAll_steady (slots : List (Fin 32)) (s : State) : Steady (skipAll s slots) s := by
  induction slots generalizing s with
  | nil => exact .refl s
  | cons i slots ih => exact (ih _).trans (slotResult_steady ..)

theorem closeWalk_steady (s : State) : Steady s.closeWalk s := by
  by_cases hopen : s.cycle.phase ≠ .cyclic ∨ s.cycle.walk = none
  · rw [closeWalk_finished hopen]
    exact .refl s
  · obtain ⟨hphase, hsome⟩ := not_or.mp hopen
    obtain ⟨w, hwalk⟩ := Option.ne_none_iff_exists'.mp hsome
    have hskipped := skipAll_steady ((List.finRange 32).filter (leftOver s w)) s
    rw [closeWalk_unfinished (not_not.mp hphase) hwalk]
    exact ⟨hskipped.engine, hskipped.bounds⟩

theorem runSlot_steady (s : State) (i : Fin 32) : Steady (s.runSlot i) s := by
  unfold State.runSlot
  split
  · rename_i result _
    exact (steady_of_frame (by simp) (by simp)).trans (slotResult_steady s i result 0 [])
  · exact steady_of_frame (by simp) (by simp)

theorem offer_steady (s : State) (r : Ring) : Steady (s.offer r).1 s := by
  unfold State.offer
  dsimp only
  split
  · split
    · exact steady_of_frame (by simp) (by simp)
    · split
      · exact steady_of_frame (by simp [State.beginRecord]) (by simp [State.beginRecord])
      · exact .refl s
  · exact .refl s

theorem considerRollCall_steady (s : State) : Steady s.considerRollCall s := by
  unfold State.considerRollCall
  split
  · exact .refl s
  · split
    · exact .refl s
    · split
      · exact steady_of_frame rfl rfl
      · exact steady_of_frame (by simp) (by simp)

theorem select_steady (s : State) : Steady s.select s := by
  have hmade (order : Nat) : Steady (selectionMade s order) s := steady_of_frame rfl rfl
  by_cases hboth : ∀ r, s.offerCompletes r = true
  · obtain ⟨first, hselect⟩ := State.select_both hboth
    rw [hselect]
    exact (considerRollCall_steady _).trans ((offer_steady _ _).trans ((offer_steady _ first).trans (hmade _)))
  · obtain ⟨r, hr⟩ := not_forall.mp hboth
    have hu := (offer_steady _ .u).trans (hmade s.orderIndex)
    rw [select_in_order (by simpa using hr)]
    split
    · exact hu
    · split
      · exact (offer_steady _ .n).trans hu
      · exact (considerRollCall_steady _).trans ((offer_steady _ .n).trans hu)

theorem beginMark_moves (s : State) (w : MarkWant) : Moves (s.beginMark w) s := by
  obtain ⟨host, hmarked⟩ := marked_fields s.applyPendingSwap
  rw [beginMark_eq s w _ rfl, hmarked]
  exact moves_of_working (by simp) (by simp) (applyPendingSwap_steady s).bounds

theorem orphan_moves (s : State) (r : Ring) : Moves (s.orphan r) s := by
  unfold State.orphan
  split
  · exact .refl s
  · split
    · exact .refl s
    · exact .refl s
    · split
      · dsimp only
        split
        · exact endExchange_moves ..
        · exact moves_of_frame rfl rfl
      · exact .refl s

/-! ### The outcomes of requests (R119, R121, R127, R128, R130, R138) -/

theorem takeOutcome_steady (s : State) (q : Request) (ok : Bool) : Steady (s.takeOutcome q ok) s := by
  unfold State.takeOutcome
  split
  · unfold State.recordReadDone
    split
    · exact haltRing_steady ..
    · split
      · exact haltRing_steady ..
      · exact steady_of_frame (by simp) (by simp)
  · unfold State.dataReadDone
    split
    · exact .refl s
    · split <;> exact steady_of_frame (by simp) (by simp)
  · unfold State.dataWriteDone
    dsimp only
    split
    · exact .refl s
    · split
      · exact .refl s
      · exact steady_of_frame (by simp) (by simp)
  · have hreturned (x : RingUnit) : Steady (s.setRing q.ring x) s := steady_of_frame (by simp) (by simp)
    unfold State.statusWriteDone
    dsimp only
    split
    · exact .refl s
    · split
      · split
        · exact hreturned _
        · split
          · exact (post_steady ..).trans (hreturned _)
          · exact hreturned _
      · exact haltRing_steady ..

theorem finishRequest_steady (s : State) (q : Request) (rest : List Request) (ok : Bool) :
    Steady (s.finishRequest q rest ok) s := by
  have hleft : Steady { s with requests := rest } s := steady_of_frame rfl rfl
  unfold State.finishRequest
  dsimp only
  split
  · exact steady_of_frame (by simp) (by simp)
  · exact (steady_of_frame (by simp) (by simp)).trans ((takeOutcome_steady _ q ok).trans hleft)

theorem transferAnswered_steady (s : State) (success : Bool) (word : Word) :
    Steady (s.transferAnswered success word) s := by
  unfold State.transferAnswered
  split
  · exact .refl s
  · split
    · exact .refl s
    · split
      · exact finishRequest_steady ..
      · dsimp only
        split
        · exact finishRequest_steady ..
        · exact steady_of_frame rfl rfl

end Sys2Proof.Machine.QueueAndInterrupts
end

section
namespace Sys2Proof.Machine.QueueAndInterrupts
open TheCycle

/-! ### What a command leads to -/

/-- In every next state of an answer the engine has moved as R186 and R188 say, and the queue has kept its bounds. -/
def Moved (s : State) (a : Answer) : Prop := ∀ t, a = .next t → Moves t s

section Answers
variable {s : State}

theorem moved_next {t : State} (h : Moves t s) : Moved s (.next t) := by
  intro u hu
  obtain rfl := Host.Outcome.next.inj hu
  exact h

theorem moved_refused (x : Refusal) : Moved s (.refused x) := by
  intro u hu
  cases hu

theorem moved_hostAccess {effect : State → State} (h : Moves (effect s) s) : Moved s (s.hostAccess effect) := by
  unfold State.hostAccess
  split
  · exact moved_next (.refl s)
  · exact moved_next h

/-- A host access outside the engine state and the queue. -/
theorem moved_access {effect : State → State} (hengine : (effect s).engine = s.engine)
    (hqueue : (effect s).queue = s.queue) : Moved s (s.hostAccess effect) :=
  moved_hostAccess (moves_of_frame hengine hqueue)

/-- A host access that only shortens the queue. -/
theorem moved_shortened {effect : State → State} (hengine : (effect s).engine = s.engine)
    (hentries : (effect s).queue.entries.length ≤ s.queue.entries.length)
    (hoverflow : (effect s).queue.overflow ≤ s.queue.overflow) : Moved s (s.hostAccess effect) :=
  moved_hostAccess (Steady.moves
    ⟨hengine, fun ⟨hlength, hcount⟩ => ⟨hentries.trans hlength, hoverflow.trans hcount⟩⟩)

theorem moved_haltedWrite {effect : State → State} (hengine : (effect s).engine = s.engine)
    (hqueue : (effect s).queue = s.queue) : Moved s (s.hostAccess (·.haltedWrite effect)) := by
  refine moved_hostAccess ?_
  unfold State.haltedWrite
  split
  · exact moves_of_frame hengine hqueue
  · exact moves_of_frame (by simp) (by simp)

end Answers

section Events
variable (s : State)

/-! ### The events of the line (R2, R10, R11, R17, R19) -/

theorem cellArrival_moved (cell : Cell) : Moved s (execCellArrival cell s) := by
  unfold execCellArrival
  split
  · exact moved_next (.refl s)
  · exact moved_next (cellArrives_moves s cell)

theorem gapLimitExpiry_moved : Moved s (execGapLimitExpiry s) := by
  unfold execGapLimitExpiry
  split
  · exact moved_next ((abandonFrame_moves _).after (elapse_steady ..))
  · exact moved_next (.refl s)

theorem lineQuiet_moved : Moved s (execLineQuiet s) := by
  have hquiet (u : State) : Steady u.becomeQuiet u := steady_of_frame rfl rfl
  unfold execLineQuiet
  split
  · exact moved_next ((hquiet _).trans (elapse_steady ..)).moves
  · exact moved_next (.refl s)

theorem echoMismatch_moved : Moved s (execEchoMismatch s) := by
  have hcut : Steady s.cutByEcho s := steady_of_frame rfl rfl
  unfold execEchoMismatch
  split
  · exact moved_next (.refl s)
  · split
    · exact moved_next ((markCut_moves _).after hcut)
    · exact moved_next ((tryCut_moves _).after hcut)

theorem transmissionComplete_moved : Moved s (execTransmissionComplete s) := by
  have hdone (u : State) : Steady u.txDone u := steady_of_frame rfl rfl
  unfold execTransmissionComplete
  split
  · exact moved_next (.refl s)
  · split
    · exact moved_next ((markComplete_moves _).after ((hdone _).trans (elapse_steady ..)))
    · exact moved_next ((tryComplete_moves _).after ((hdone _).trans (elapse_steady ..)))

/-! ### The events of the cycle (R23, R24, R27, R31, R33) -/

theorem markDue_moved : Moved s (execMarkDue s) := by
  have hwant (u : State) (c : CycleUnit) : Steady { u with cycle := c } u := steady_of_frame rfl rfl
  unfold execMarkDue
  split
  · exact moved_next ((closeWalk_steady _).trans ((hwant _ _).trans (elapse_steady ..))).moves
  · exact moved_next (.refl s)

theorem markBegin_moved : Moved s (execMarkBegin s) := by
  unfold execMarkBegin
  split
  · exact moved_next (.refl s)
  · split
    · exact moved_next (beginMark_moves ..)
    · exact moved_next (.refl s)

theorem quietWaitLimit_moved : Moved s (execQuietWaitLimit s) := by
  unfold execQuietWaitLimit
  split
  · exact moved_next (.refl s)
  · exact moved_next ((enterLineFault_moves ..).after (elapse_steady ..))

theorem slotOpportunity_moved : Moved s (execSlotOpportunity s) := by
  unfold execSlotOpportunity
  split
  · exact moved_next (.refl s)
  · split
    · split
      · exact moved_next (runSlot_steady ..).moves
      · exact moved_next (moves_of_frame (by simp) (by simp))
    · exact moved_next (.refl s)

theorem owedSelection_moved : Moved s (execOwedSelection s) := by
  unfold execOwedSelection
  split
  · exact moved_next (select_steady s).moves
  · exact moved_next (.refl s)

/-! ### The events of the context, and RESET (R42, R53, R176) -/

theorem windowExpiry_moved : Moved s (execWindowExpiry s) := by
  unfold execWindowExpiry
  split
  · exact moved_next (.refl s)
  · dsimp only
    split
    · exact moved_next (elapse_steady ..).moves
    · exact moved_next ((takeExpiry_moves ..).after (elapse_steady ..))

theorem retryOpportunity_moved : Moved s (execRetryOpportunity s) := by
  unfold execRetryOpportunity
  split
  · exact moved_next (.refl s)
  · split
    · split
      · exact moved_next (moves_of_frame (by simp) (by simp))
      · exact moved_next (returnToStaging_moves ..)
    · exact moved_next (.refl s)

theorem hardwareReset_moved : Moved s (execHardwareReset s) :=
  moved_next (moves_of_working (by simp [State.reset]) (by simp [State.reset])
    fun _ => ⟨Nat.zero_le _, Nat.zero_le _⟩)

theorem resetReleased_moved : Moved s (execResetReleased s) := by
  unfold execResetReleased
  split
  · exact moved_next (moves_of_frame rfl rfl)
  · exact moved_next (.refl s)

/-- INIT's end alone enters HALTED with no flag (R176, R188). -/
theorem initClearingFinished_moved : Moved s (execInitClearingFinished s) := by
  unfold execInitClearingFinished
  split
  · rename_i hclearing
    obtain ⟨hinit, -⟩ : s.engine = .init ∧ s.resetAsserted = false := by simpa using hclearing
    exact moved_next ⟨fun _ hs => absurd hinit hs, fun _ ht => absurd ht (by simp), id⟩
  · exact moved_next (.refl s)

end Events

section Commands
variable (s : State) (arg : Byte)

/-! ### Engine commands (R97, R180, R183, R185) -/

theorem start_moves : Moves (s.start arg) s := by
  unfold State.start
  split
  · exact moves_of_frame rfl rfl
  · split
    · exact moves_of_frame rfl rfl
    · split
      · exact moves_of_frame rfl rfl
      · exact moves_of_working (by simp [State.done]) (by simp [State.done]) id

theorem leaveLineFault_moves : Moves s.leaveLineFault s :=
  (enterHalted_moves s).note 0 s.enterHalted.host.commandStatus

theorem stop_moves : Moves (s.stop arg) s := by
  unfold State.stop
  split
  · split
    · exact moves_of_working (by simp [State.accepted]) (by simp [State.accepted]) id
    · exact (enterHalted_moves s).done 2 arg
  · exact (enterHalted_moves s).done 2 arg
  · exact (leaveLineFault_moves s).done 2 arg
  all_goals exact moves_of_frame rfl rfl

theorem abort_moves : Moves (s.abort arg) s := by
  have hcut : Steady (s.cutByEngine.interrupt .aborted) s :=
    (interrupt_steady ..).trans (steady_of_frame (by simp) (by simp))
  have hhalted := (enterHalted_moves _).after hcut
  unfold State.abort
  split
  · exact hhalted.done 3 arg
  · exact hhalted.done 3 arg
  · exact hhalted.done 3 arg
  · exact ((leaveLineFault_moves _).after hcut).done 3 arg
  all_goals exact moves_of_frame rfl rfl

theorem swap_moves : Moves (s.swap arg) s := by
  unfold State.swap
  split
  · exact moves_of_frame rfl rfl
  · split
    · exact moves_of_frame rfl rfl
    · split
      · exact (applySwap_steady s).moves.done 5 arg
      · exact moves_of_frame rfl rfl

/-! ### Station commands and the miss limit (R78, R80 to R84) -/

theorem stationCommand_moves (code : Byte) (accepts : StationState → Bool) (act : Station → Station) :
    Moves (s.stationCommand code arg accepts act) s := by
  unfold State.stationCommand
  split
  · exact moves_of_frame rfl rfl
  · dsimp only
    split
    · exact (setStation_steady ..).moves.done code arg
    · exact moves_of_frame rfl rfl

theorem clearSticky_moved : Moved s (execClearSticky arg s) := by
  have hcleared : Steady s.clearAllSticky s :=
    steady_of_frame (by simp [State.clearAllSticky]) (by simp [State.clearAllSticky])
  refine moved_hostAccess ?_
  split
  · exact hcleared.moves.done 9 arg
  · exact stationCommand_moves ..

theorem loseAtLimit_steady : Steady s.loseAtLimit s := by
  unfold State.loseAtLimit
  induction List.finRange 62 generalizing s with
  | nil => exact .refl s
  | cons i slots ih =>
    rw [List.foldl_cons]
    refine (ih _).trans ?_
    dsimp only
    split
    · exact enterLost_steady ..
    · exact .refl s

theorem missLimitWrite_moved (data : Word) : Moved s (execMissLimitWrite data s) :=
  moved_hostAccess ((loseAtLimit_steady _).trans (steady_of_frame (by simp) (by simp))).moves

/-! ### Ring commands (R112, R116, R117, R131 to R134) -/

theorem ringCommand_moved (code : Byte) {effect : State → Ring → State} (h : ∀ r, Moves (effect s r) s) :
    Moved s (s.hostAccess fun s => s.ringCommand code arg (effect s)) := by
  refine moved_hostAccess ?_
  unfold State.ringCommand
  split
  · exact moves_of_frame rfl rfl
  · exact h _

theorem enableRing_moves (r : Ring) : Moves (s.enableRing arg r) s := by
  unfold State.enableRing
  dsimp only
  split
  · exact moves_of_frame rfl rfl
  · split
    · exact moves_of_frame rfl rfl
    · exact moves_of_frame (by simp [State.done]) (by simp [State.done])

theorem resumeRing_moves (r : Ring) : Moves (s.resumeRing arg r) s := by
  unfold State.resumeRing
  dsimp only
  split
  · exact moves_of_frame rfl rfl
  · exact moves_of_frame (by simp [State.done]) (by simp [State.done])

theorem resetRing_moves (r : Ring) : Moves (s.resetRing r) s :=
  (orphan_moves _ r).after (steady_of_frame (by simp) (by simp))

theorem postRecords_moves (r : Ring) (n : Nat) : Moves (s.postRecords r n) s := by
  unfold State.postRecords
  dsimp only
  split
  · exact moves_of_frame (by simp) (by simp)
  · split
    · exact .refl s
    · split <;> exact moves_of_frame (by simp) (by simp)

theorem ringConfigWrite_moves (r : Ring) (change : RingUnit → RingUnit) : Moves (s.ringConfigWrite r change) s := by
  unfold State.ringConfigWrite
  dsimp only
  split <;> exact moves_of_frame (by simp) (by simp)

theorem ringStatusWrite_moved (r : Ring) (data : Word) : Moved s (execRingStatusWrite r data s) := by
  refine moved_hostAccess ?_
  split
  · exact moves_of_frame (by simp) (by simp)
  · exact .refl s

/-! ### Other writes (R93, R108, R178, R194) -/

theorem slotRegisterWrite_moved (register : SlotRegister) (data : Word) :
    Moved s (execSlotRegisterWrite register data s) := by
  refine moved_hostAccess ?_
  split <;> exact moves_of_frame (by simp) (by simp)

theorem exmemDataRead_moved : Moved s (execExmemDataRead s) := by
  unfold execExmemDataRead
  split <;> exact moved_next (moves_of_frame rfl rfl)

theorem commandCodeUnknown_moved (code : Byte) : Moved s (execCommandCodeUnknown code arg s) := by
  unfold execCommandCodeUnknown
  split
  · exact moved_refused _
  · exact moved_access rfl rfl

theorem narrowWrite_moved (offset : Byte) (enables : BitVec 4) (data : Word) :
    Moved s (execNarrowWrite offset enables data s) := by
  unfold execNarrowWrite
  split
  · exact moved_access rfl rfl
  · exact moved_refused _

theorem ignoredRegisterWrite_moved (offset : Byte) (data : Word) :
    Moved s (execIgnoredRegisterWrite offset data s) := by
  unfold execIgnoredRegisterWrite
  split
  · exact moved_next (.refl s)
  · exact moved_refused _

end Commands

/-! ### Every command but SOFT_RESET (R164, R186, R188) -/

theorem exec_moved {c : Instr} (hc : ∀ arg, c ≠ .softReset arg) (s : State) : Moved s (exec c s) := by
  cases c with
  | softReset arg => exact absurd rfl (hc arg)
  | hardwareReset => exact hardwareReset_moved s
  | resetReleased => exact resetReleased_moved s
  | initClearingFinished => exact initClearingFinished_moved s
  | startBit => exact moved_next (startBit_steady s).moves
  | cellArrival cell => exact cellArrival_moved s cell
  | gapLimitExpiry => exact gapLimitExpiry_moved s
  | lineQuiet => exact lineQuiet_moved s
  | echoMismatch => exact echoMismatch_moved s
  | transmissionComplete => exact transmissionComplete_moved s
  | markDue => exact markDue_moved s
  | markBegin => exact markBegin_moved s
  | quietWaitLimit => exact quietWaitLimit_moved s
  | slotOpportunity => exact slotOpportunity_moved s
  | owedSelection => exact owedSelection_moved s
  | windowExpiry => exact windowExpiry_moved s
  | retryOpportunity => exact retryOpportunity_moved s
  | memoryTransferAnswer success word => exact moved_next (transferAnswered_steady s success word).moves
  | start arg => exact show Moved s (execStart arg s) from moved_hostAccess (start_moves s arg)
  | stop arg => exact show Moved s (execStop arg s) from moved_hostAccess (stop_moves s arg)
  | abort arg => exact show Moved s (execAbort arg s) from moved_hostAccess (abort_moves s arg)
  | swap arg => exact show Moved s (execSwap arg s) from moved_hostAccess (swap_moves s arg)
  | queueClear arg =>
    exact show Moved s (execQueueClear arg s) from moved_shortened rfl (Nat.zero_le _) (Nat.zero_le _)
  | admitStation arg => exact show Moved s (execAdmit arg s) from moved_hostAccess (stationCommand_moves ..)
  | bar arg => exact show Moved s (execBar arg s) from moved_hostAccess (stationCommand_moves ..)
  | forget arg => exact show Moved s (execForget arg s) from moved_hostAccess (stationCommand_moves ..)
  | clearSticky arg => exact clearSticky_moved s arg
  | ringEnable arg => exact show Moved s (execRingEnable arg s) from ringCommand_moved s arg 10 (enableRing_moves s arg)
  | ringResume arg => exact show Moved s (execRingResume arg s) from ringCommand_moved s arg 11 (resumeRing_moves s arg)
  | ringReset arg =>
    exact show Moved s (execRingReset arg s) from ringCommand_moved s arg 12 fun r => (resetRing_moves s r).done 12 arg
  | post r data => exact show Moved s (execPost r data s) from moved_hostAccess (postRecords_moves ..)
  | ringStatusWrite r data => exact ringStatusWrite_moved s r data
  | baseWrite r data => exact show Moved s (execBaseWrite r data s) from moved_hostAccess (ringConfigWrite_moves ..)
  | lengthWrite r data => exact show Moved s (execLengthWrite r data s) from moved_hostAccess (ringConfigWrite_moves ..)
  | queuePop data =>
    exact show Moved s (execQueuePop data s) from moved_shortened rfl (by simp) le_rfl
  | intPendingWrite data => exact show Moved s (execIntPendingWrite data s) from moved_access rfl rfl
  | intEnableWrite data => exact show Moved s (execIntEnableWrite data s) from moved_access rfl rfl
  | windowStatusWrite data => exact show Moved s (execWindowStatusWrite data s) from moved_access rfl rfl
  | lineConfigWrite data => exact show Moved s (execLineConfigWrite data s) from moved_haltedWrite (by simp) (by simp)
  | cyclePeriodWrite data => exact show Moved s (execCyclePeriodWrite data s) from moved_haltedWrite (by simp) (by simp)
  | guardWrite data => exact show Moved s (execGuardWrite data s) from moved_access (by simp) (by simp)
  | missLimitWrite data => exact missLimitWrite_moved s data
  | rollcallConfigWrite data =>
    exact show Moved s (execRollcallConfigWrite data s) from moved_access (by simp) (by simp)
  | notifyThresholdWrite data =>
    exact show Moved s (execNotifyThresholdWrite data s) from moved_access (by simp) (by simp)
  | holdMaskWrite data => exact show Moved s (execHoldMaskWrite data s) from moved_access rfl rfl
  | slotSelectWrite data => exact show Moved s (execSlotSelectWrite data s) from moved_access rfl rfl
  | slotRegisterWrite register data => exact slotRegisterWrite_moved s register data
  | stationSelectWrite data => exact show Moved s (execStationSelectWrite data s) from moved_access (by simp) (by simp)
  | stationConfigWrite data => exact show Moved s (execStationConfigWrite data s) from moved_access (by simp) (by simp)
  | exmemAddrWrite data => exact show Moved s (execExmemAddrWrite data s) from moved_access rfl rfl
  | exmemDataRead => exact exmemDataRead_moved s
  | exmemDataWrite data => exact show Moved s (execExmemDataWrite data s) from moved_access rfl rfl
  | commandCodeUnknown code arg => exact commandCodeUnknown_moved s arg code
  | narrowWrite offset enables data => exact narrowWrite_moved s offset enables data
  | ignoredRegisterWrite offset data => exact ignoredRegisterWrite_moved s offset data

/-- SOFT_RESET is ignored in INIT, and otherwise empties the queue and leaves the engine in HALTED (R176, R189). -/
theorem exec_softReset_cases {arg : Byte} {s t : State} (h : exec (.softReset arg) s = .next t) :
    t = s ∨ t.engine = .halted ∧ t.queue = { entries := [], overflow := 0 } := by
  change execSoftReset arg s = _ at h
  exact (SchedulePages.hostAccess_cases h).imp_right fun ht => by rw [ht]; exact ⟨rfl, rfl⟩

/-! ### The two statements over every command -/

/-- Settles O12: the entries of every command but SOFT_RESET are those of `exec_moved`, and SOFT_RESET enters HALTED
alone. -/
theorem entriesToHaltedAndLineFaultRaiseTheirFlags : Obligations.EntriesToHaltedAndLineFaultRaiseTheirFlags := by
  intro c s t h
  refine ⟨fun hs hinit hreset ht => ?_, fun hs ht => ?_⟩
  · obtain ⟨hflag, hswap, hreceiver, hwatch⟩ := (exec_moved hreset s t h).halted hs hinit ht
    exact ⟨hflag, hswap, hreceiver, hwatch⟩
  · have hreset : ∀ arg, c ≠ .softReset arg := by
      rintro arg rfl
      rcases exec_softReset_cases h with rfl | ⟨hhalted, -⟩
      · exact hs ht
      · cases hhalted.symm.trans ht
    obtain ⟨hflag, hcontext, hwant, howed⟩ := (exec_moved hreset s t h).lineFault hs ht
    exact ⟨hflag, hcontext, hwant, howed⟩

/-- The queue keeps its bounds over every command (R164). -/
theorem exec_queueBounded {c : Instr} {s t : State} (hs : s.queueBounded) (h : exec c s = .next t) :
    t.queueBounded := by
  by_cases hc : ∃ arg, c = .softReset arg
  · obtain ⟨arg, rfl⟩ := hc
    rcases exec_softReset_cases h with rfl | ⟨-, hqueue⟩
    · exact hs
    · simp [State.queueBounded, hqueue]
  · exact (exec_moved (not_exists.mp hc) s t h).bounds hs

/-- Settles O5: every command keeps the bounds, and the passing of a bit time leaves the queue. -/
theorem queueStaysWithinItsBounds : Obligations.QueueStaysWithinItsBounds := by
  intro s t hs h
  unfold step at h
  split at h
  · rename_i rest _
    have hpopped : State.queueBounded { s with pending := rest } := hs
    exact exec_queueBounded hpopped h
  · unfold idleStep at h
    split at h
    · exact exec_queueBounded hs h
    · obtain rfl := Host.Outcome.next.inj h
      unfold State.bitTime
      split
      · exact hs
      · exact (elapse_steady s 1).bounds hs

end Sys2Proof.Machine.QueueAndInterrupts
end

section
namespace Sys2Proof.Machine.QueueAndInterrupts
open FaultAccounting

/-! ### Posts and flags (R162, R165, R168, R171, R172) -/

/-- A post changes the queue and the flags alone (R165, R168). -/
theorem post_keepsRest (s : State) (e : Entry) :
    { s.post e with queue := s.queue, host := { (s.post e).host with intPending := s.host.intPending } } = s := by
  simp

/-- Setting a flag changes the flags alone (R172). -/
theorem raise_keepsRest (s : State) (f : IntFlag) :
    { s.raise f with host := { (s.raise f).host with intPending := s.host.intPending } } = s := by
  simp

/-- Settles O50: a post to a queue with room, a post to a full one, and what both leave. -/
theorem postPlacesOrRefuses : Obligations.PostPlacesOrRefuses := by
  refine ⟨fun _ _ _ => rfl, fun s e => ⟨fun hlength => ?room, fun hlength => ?full, post_keepsRest s e,
    fun f => ⟨fun g => ?flags, raise_keepsRest s f⟩⟩⟩
  case room =>
    have hroom : s.queueFull = false := decide_eq_false (not_le.mpr hlength)
    refine ⟨post_room_queue e hroom, ?_, fun f hf => ?_⟩
    · simp [post_room_flag e hroom]
    · simp [post_room_flag e hroom, hf]
  case full =>
    have hfull : s.queueFull = true := decide_eq_true hlength
    refine ⟨post_full_queue e hfull, ?_, fun f hf => ?_⟩
    · simp [post_full_flag e hfull]
    · simp [post_full_flag e hfull, hf]
  case flags =>
    rw [State.flag_raise]
    exact Bool.or_comm ..

end Sys2Proof.Machine.QueueAndInterrupts
end

section
namespace Sys2Proof.Machine.QueueAndInterrupts

/-! ### The level of INT (R174) -/

/-- The flags stand at the seven bits of INT_PENDING and INT_ENABLE, and at no other (R172). -/
theorem intFlag_bit_lt (f : IntFlag) : f.bit < 7 := by cases f <;> decide

/-- Each of the seven bits is a flag's (R172). -/
theorem exists_intFlag_bit {i : Nat} (h : i < 7) : ∃ f : IntFlag, f.bit = i := by
  have hall : ∀ i : Fin 7,
      ∃ f ∈ [IntFlag.notify, .mark, .alert, .ring, .line, .halted, .overflow], f.bit = i.val := by decide
  obtain ⟨f, -, hf⟩ := hall ⟨i, h⟩
  exact ⟨f, hf⟩

/-- The misuse flags stand at the three bits of WINDOW_STATUS (R193). -/
theorem misuse_bit_lt (m : Misuse) : m.bit < 3 := by cases m <;> decide

/-- INT is asserted exactly when some flag is set and enabled (R174). -/
theorem intAsserted_iff (s : State) :
    s.intAsserted = true ↔ ∃ f : IntFlag, s.flag f = true ∧ s.host.intEnable.getLsbD f.bit = true := by
  have hbits : s.intAsserted = true ↔ ∃ i, i < 7 ∧ (s.host.intPending &&& s.host.intEnable).getLsbD i = true := by
    rw [State.intAsserted, bne_iff_ne, ne_eq, ← not_iff_not, not_not, BitVec.eq_of_getLsbD_eq_iff]
    simp
  rw [hbits]
  constructor
  · rintro ⟨i, hi, hset⟩
    obtain ⟨f, rfl⟩ := exists_intFlag_bit hi
    rw [BitVec.getLsbD_and, Bool.and_eq_true] at hset
    exact ⟨f, hset⟩
  · rintro ⟨f, hflag, henabled⟩
    refine ⟨f.bit, intFlag_bit_lt f, ?_⟩
    rw [BitVec.getLsbD_and, Bool.and_eq_true]
    exact ⟨hflag, henabled⟩

/-! ### The window registers (R167, R173, R174, R193) -/

/-- A bit that a written 1 clears, in a register of `n` bits (R173, R193). -/
theorem getLsbD_cleared {n i : Nat} (h : i < n) (x : BitVec n) (data : Word) :
    (x &&& ~~~(data.extractLsb' 0 n)).getLsbD i = (x.getLsbD i && !data.getLsbD i) := by
  simp [h]

/-- A bit of a register of `n` bits that takes the word written (R174). -/
theorem getLsbD_replaced {n i : Nat} (h : i < n) (data : Word) :
    (data.extractLsb' 0 n).getLsbD i = data.getLsbD i := by
  simp [h]

section Writes
variable {s : State} (hs : s.engine ≠ .init) (data : Word)
include hs

theorem exec_queuePop : exec (.queuePop data) s = .next
    { s with queue := { s.queue with entries := s.queue.entries.drop 1 } } := by
  change execQueuePop data s = _
  rw [execQueuePop, State.hostAccess_taken hs, List.drop_one]

theorem exec_intPendingWrite : exec (.intPendingWrite data) s = .next
    { s with host := { s.host with intPending := s.host.intPending &&& ~~~(data.extractLsb' 0 7) } } := by
  change execIntPendingWrite data s = _
  rw [execIntPendingWrite, State.hostAccess_taken hs]

theorem exec_intEnableWrite : exec (.intEnableWrite data) s = .next
    { s with host := { s.host with intEnable := data.extractLsb' 0 7 } } := by
  change execIntEnableWrite data s = _
  rw [execIntEnableWrite, State.hostAccess_taken hs]

theorem exec_windowStatusWrite : exec (.windowStatusWrite data) s = .next
    { s with host := { s.host with windowStatus := s.host.windowStatus &&& ~~~(data.extractLsb' 0 3) } } := by
  change execWindowStatusWrite data s = _
  rw [execWindowStatusWrite, State.hostAccess_taken hs]

end Writes

/-- Settles O55: the places of the flags, and each write by the bits that it leaves. -/
theorem queueAndFlagWrites : Obligations.QueueAndFlagWrites := by
  refine ⟨⟨rfl, rfl, fun _ _ => rfl⟩, fun s data hs => ⟨exec_queuePop hs data,
    ⟨_, exec_intPendingWrite hs data, fun f => getLsbD_cleared (intFlag_bit_lt f) _ data, rfl⟩,
    ⟨_, exec_intEnableWrite hs data, fun f => getLsbD_replaced (intFlag_bit_lt f) data, ?level, rfl⟩,
    ⟨_, exec_windowStatusWrite hs data, fun m => getLsbD_cleared (misuse_bit_lt m) _ data, rfl⟩⟩⟩
  case level =>
    rw [intAsserted_iff]
    exact exists_congr fun f => and_congr_right fun _ => by rw [getLsbD_replaced (intFlag_bit_lt f)]

end Sys2Proof.Machine.QueueAndInterrupts
end

section
namespace Sys2Proof.Machine.QueueAndInterrupts

/-! ### The command of a COMMAND write (R178) -/

/-- A byte of a word by its place, as the map gives it (R194). -/
theorem extractByte_eq (data : Word) (lo : Nat) :
    data.extractLsb' lo 8 = BitVec.ofNat 8 (data.toNat / 2 ^ lo % 256) := by
  apply BitVec.eq_of_toNat_eq
  simp [Nat.shiftRight_eq_div_pow]

/-- The commands of the codes 1 to 13, in the order of their codes (R178). -/
def commandsByCode : List (Byte → Instr) :=
  [.start, .stop, .abort, .softReset, .swap, .admitStation, .bar, .forget, .clearSticky, .ringEnable, .ringResume,
    .ringReset, .queueClear]

/-- A known code selects its command, with the argument field of the word (R178). -/
theorem commandOfWord_known {data : Word} {k : Nat} {c : Byte → Instr} (hc : commandsByCode[k]? = some c)
    (hcode : (data.extractLsb' 0 8).toNat = k + 1) : commandOfWord data = c (data.extractLsb' 8 8) := by
  obtain ⟨hk, -⟩ := List.getElem?_eq_some_iff.mp hc
  have hlt : k < 13 := hk
  unfold commandOfWord
  dsimp only
  rw [hcode]
  interval_cases k <;> (obtain rfl := Option.some.inj hc; rfl)

/-- Every other code is unknown (R178). -/
theorem commandOfWord_unknown {data : Word}
    (hcode : (data.extractLsb' 0 8).toNat = 0 ∨ 13 < (data.extractLsb' 0 8).toNat) :
    commandOfWord data = .commandCodeUnknown (data.extractLsb' 0 8) (data.extractLsb' 8 8) := by
  unfold commandOfWord
  dsimp only
  split
  case h_14 => rfl
  all_goals omega

/-- A word spells a known command, or has a code that is no command's (R178). -/
theorem commandOfWord_cases (data : Word) :
    (∃ c ∈ commandsByCode, commandOfWord data = c (data.extractLsb' 8 8))
      ∨ knownCode (data.extractLsb' 0 8) = false
        ∧ commandOfWord data = .commandCodeUnknown (data.extractLsb' 0 8) (data.extractLsb' 8 8) := by
  by_cases hcode : (data.extractLsb' 0 8).toNat = 0 ∨ 13 < (data.extractLsb' 0 8).toNat
  · refine .inr ⟨?_, commandOfWord_unknown hcode⟩
    rw [knownCode, Bool.and_eq_false_iff, decide_eq_false_iff_not, decide_eq_false_iff_not]
    omega
  · have hlt : (data.extractLsb' 0 8).toNat - 1 < commandsByCode.length := by
      change _ < 13
      omega
    exact .inl ⟨_, List.getElem_mem hlt, commandOfWord_known (List.getElem?_eq_getElem hlt) (by omega)⟩

/-! ### The command of a write by its offset (R194) -/

/-- The registers that a write reaches, COMMAND apart, by their offsets, each with its write (the map of
11_register_window_and_formats.md). -/
def registerWrites (data : Word) : List (Nat × Instr) :=
  [(0x0C, .windowStatusWrite data), (0x10, .intPendingWrite data), (0x14, .intEnableWrite data),
   (0x18, .lineConfigWrite data), (0x1C, .cyclePeriodWrite data), (0x20, .guardWrite data),
   (0x24, .missLimitWrite data), (0x28, .rollcallConfigWrite data), (0x2C, .notifyThresholdWrite data),
   (0x3C, .holdMaskWrite data), (0x40, .exmemAddrWrite data), (0x44, .exmemDataWrite data),
   (0x48, .slotSelectWrite data), (0x4C, .slotRegisterWrite .station data),
   (0x50, .slotRegisterWrite .outArea data), (0x54, .slotRegisterWrite .inArea data),
   (0x5C, .stationSelectWrite data), (0x6C, .stationConfigWrite data), (0x80, .baseWrite .u data),
   (0x84, .lengthWrite .u data), (0x88, .ringStatusWrite .u data), (0x8C, .post .u data),
   (0x90, .baseWrite .n data), (0x94, .lengthWrite .n data), (0x98, .ringStatusWrite .n data),
   (0x9C, .post .n data), (0xA8, .queuePop data)]

/-- A writable position is COMMAND's or a register's. -/
theorem writable_cases {position : Nat} (h : position ∈ writablePositions) (data : Word) :
    4 * position = 0x04 ∨ ∃ x ∈ registerWrites data, x.1 = 4 * position := by
  have hregisters : (registerWrites data).map Prod.fst = writablePositions.tail.map (4 * ·) := rfl
  rcases List.mem_cons.mp (show position ∈ 1 :: writablePositions.tail from h) with rfl | htail
  · exact .inl rfl
  · have hmem := List.mem_map_of_mem (f := (4 * ·)) htail
    rw [← hregisters] at hmem
    exact .inr (List.mem_map.mp hmem)

section Wide
variable {offset : Byte} {data : Word}

theorem wideWrite_command (h : 4 * wordPosition offset = 0x04) : wideWrite offset data = commandOfWord data := by
  unfold wideWrite
  rw [h]
  rfl

theorem wideWrite_register {x : Nat × Instr} (hx : x ∈ registerWrites data) (h : x.1 = 4 * wordPosition offset) :
    wideWrite offset data = x.2 := by
  unfold wideWrite
  rw [← h]
  unfold registerWrites at hx
  fin_cases hx <;> rfl

theorem wideWrite_ignored (h : wordPosition offset ∉ writablePositions) :
    wideWrite offset data = .ignoredRegisterWrite offset data := by
  simp only [writablePositions, List.map_cons, List.map_nil, List.mem_cons, List.not_mem_nil, not_or] at h
  unfold wideWrite
  split
  case h_29 => rfl
  all_goals omega

/-- What holds of every command that a COMMAND write spells, of every register's write and of an ignored write where
nothing is written holds of every 32-bit write. -/
theorem wideWrite_rec {P : Instr → Prop} (hcommand : P (commandOfWord data))
    (hregister : ∀ x ∈ registerWrites data, P x.2)
    (hignored : wordPosition offset ∉ writablePositions → P (.ignoredRegisterWrite offset data)) :
    P (wideWrite offset data) := by
  by_cases h : wordPosition offset ∈ writablePositions
  · rcases writable_cases h data with hposition | ⟨x, hx, hposition⟩
    · rwa [wideWrite_command hposition]
    · rw [wideWrite_register hx hposition]
      exact hregister x hx
  · rw [wideWrite_ignored h]
    exact hignored h

/-- Every 32-bit write is a command of the part (R178, R194). -/
theorem wideWrite_wellFormed : (wideWrite offset data).wellFormed = true := by
  refine wideWrite_rec (P := (·.wellFormed = true)) ?_ (fun x hx => ?_) fun h => ?_
  · rcases commandOfWord_cases data with ⟨c, hc, hcommand⟩ | ⟨hunknown, hcommand⟩
    · rw [hcommand]
      unfold commandsByCode at hc
      fin_cases hc <;> rfl
    · rw [hcommand, Instr.wellFormed, hunknown, Bool.not_false]
  · unfold registerWrites at hx
    fin_cases hx <;> rfl
  · simpa [Instr.wellFormed] using h

/-- No 32-bit write is narrow (R194). -/
theorem wideWrite_ne_narrow (o : Byte) (e : BitVec 4) (d : Word) : wideWrite offset data ≠ .narrowWrite o e d := by
  refine wideWrite_rec (P := (· ≠ .narrowWrite o e d)) ?_ (fun x hx => ?_) fun _ => nofun
  · rcases commandOfWord_cases data with ⟨c, hc, hcommand⟩ | ⟨-, hcommand⟩
    · rw [hcommand]
      unfold commandsByCode at hc
      fin_cases hc <;> nofun
    · rw [hcommand]
      nofun
  · unfold registerWrites at hx
    fin_cases hx <;> nofun

end Wide

section Enables
variable {enables : BitVec 4} (offset : Byte) (data : Word)

theorem hostWrite_narrow (h : enables ≠ 0xF#4) : hostWrite offset enables data = .narrowWrite offset enables data :=
  if_neg h

theorem hostWrite_wide (h : enables = 0xF#4) : hostWrite offset enables data = wideWrite offset data := if_pos h

/-- Every host write is a command of the part (R178, R194). -/
theorem hostWrite_wellFormed : (hostWrite offset enables data).wellFormed = true := by
  by_cases h : enables = 0xF#4
  · rw [hostWrite_wide offset data h]
    exact wideWrite_wellFormed
  · rw [hostWrite_narrow offset data h]
    simpa [Instr.wellFormed] using h

end Enables

/-! ### QUEUE_CLEAR and the writes that nothing takes (R170, R178, R194) -/

theorem exec_queueClear_init {s : State} (h : s.engine = .init) (arg : Byte) : exec (.queueClear arg) s = .next s := by
  change execQueueClear arg s = _
  rw [execQueueClear, State.hostAccess_init h]

section Writes
variable {s : State} (hs : s.engine ≠ .init)
include hs

theorem exec_queueClear (arg : Byte) : exec (.queueClear arg) s = .next
    { s with
      queue := { entries := [], overflow := 0 }
      host := { s.host with commandStatus :=
        { code := 13, arg := arg, decision := .done, detail := 0, index := 0 } } } := by
  change execQueueClear arg s = _
  rw [execQueueClear, State.hostAccess_taken hs]
  rfl

theorem exec_commandCodeUnknown {code : Byte} (h : code = 0 ∨ 13 < code.toNat) (arg : Byte) :
    exec (.commandCodeUnknown code arg) s = .next { s with host := { s.host with commandStatus :=
      { code := code, arg := arg, decision := .refusedArgument, detail := 0, index := 0 } } } := by
  have hunknown : ¬ knownCode code = true := by
    rw [knownCode, Bool.and_eq_true, decide_eq_true_eq, decide_eq_true_eq]
    rcases h with rfl | h
    · decide
    · omega
  change execCommandCodeUnknown code arg s = _
  rw [execCommandCodeUnknown, if_neg hunknown, State.hostAccess_taken hs]
  rfl

theorem exec_narrowWrite {enables : BitVec 4} (h : enables ≠ 0xF#4) (offset : Byte) (data : Word) :
    exec (.narrowWrite offset enables data) s = .next
      { s with host := { s.host with windowStatus := s.host.windowStatus ||| 4 } } := by
  have hwf : (Instr.narrowWrite offset enables data).wellFormed = true := by simpa [Instr.wellFormed] using h
  change execNarrowWrite offset enables data s = _
  rw [execNarrowWrite, if_pos hwf, State.hostAccess_taken hs]
  rfl

end Writes

theorem exec_ignoredRegisterWrite {offset : Byte} (h : wordPosition offset ∉ writablePositions) (data : Word)
    (s : State) : exec (.ignoredRegisterWrite offset data) s = .next s := by
  have hwf : (Instr.ignoredRegisterWrite offset data).wellFormed = true := by simpa [Instr.wellFormed] using h
  change execIgnoredRegisterWrite offset data s = _
  rw [execIgnoredRegisterWrite, if_pos hwf]

/-- The offsets below 0xB0 that a 32-bit write does not reach: the registers that are read alone, and those that hold
none (the map of 11_register_window_and_formats.md). -/
def unwrittenOffsets : List Nat :=
  [0x00, 0x08, 0x30, 0x34, 0x38, 0x58, 0x60, 0x64, 0x68, 0x70, 0x74, 0x78, 0x7C, 0xA0, 0xA4, 0xAC]

theorem not_writable_of_offset {offset : Byte}
    (h : offset.toNat / 4 * 4 ∈ unwrittenOffsets ∨ 0xB0 ≤ offset.toNat) :
    wordPosition offset ∉ writablePositions := by
  have hwritable : ∀ p ∈ writablePositions, p * 4 < 0xB0 ∧ p * 4 ∉ unwrittenOffsets := by decide
  intro hmem
  obtain ⟨hbelow, hnot⟩ := hwritable _ hmem
  rcases h with h | h
  · exact hnot h
  · change offset.toNat / 4 * 4 < 0xB0 at hbelow
    omega

/-- Settles O46: QUEUE_CLEAR and the writes that nothing takes by their own lemmas, and a host write by its byte
enables, its offset and, at COMMAND, its code. -/
theorem queueClearAndWritesThatNothingTakes : Obligations.QueueClearAndWritesThatNothingTakes := by
  refine ⟨fun arg s hinit => exec_queueClear_init hinit arg, fun arg s hs => exec_queueClear hs arg,
    fun code arg s hs hcode => exec_commandCodeUnknown hs hcode arg,
    fun s offset enables data hs => ⟨fun h => exec_narrowWrite hs h offset data,
      fun h => exec_ignoredRegisterWrite (not_writable_of_offset h) data s⟩, ?_⟩
  rintro offset enables data code arg registers hcode harg rfl
  have hposition : offset.toNat / 4 * 4 = 4 * wordPosition offset := Nat.mul_comm ..
  have hcode' : data.extractLsb' 0 8 = code := by rw [extractByte_eq, hcode, pow_zero, Nat.div_one]
  have harg' : data.extractLsb' 8 8 = arg := (extractByte_eq data 8).trans harg.symm
  refine ⟨hostWrite_wellFormed offset data, hostWrite_narrow offset data, fun hwide => ?_⟩
  rw [hostWrite_wide offset data hwide, hposition]
  refine ⟨wideWrite_ne_narrow, fun hcommand => ⟨fun k c hc hk => ?_, fun hunknown => ?_⟩,
    fun c hc => wideWrite_register (x := (_, c)) hc rfl, fun hcommand hnone => ?_⟩
  · rw [wideWrite_command hcommand, commandOfWord_known hc (by rw [hcode', hk]), harg']
  · have hrange : code.toNat = 0 ∨ 13 < code.toNat := hunknown.imp_left fun h => by rw [h]; rfl
    rw [wideWrite_command hcommand, commandOfWord_unknown (by rwa [hcode']), hcode', harg']
  · refine wideWrite_ignored fun hwritable => ?_
    rcases writable_cases hwritable data with h | ⟨⟨_, c⟩, hx, rfl⟩
    · exact hcommand h
    · exact hnone c hx

end Sys2Proof.Machine.QueueAndInterrupts
end

section
namespace Sys2Proof.Machine.EngineStates
open TheCycle

/-! ### The commands waiting, over the operations of an event (R1 to R74) -/

section Operations
variable (s : State)

@[simp] theorem endRollCall_pending (e : Exchange) : (s.endRollCall e).pending = s.pending := by
  simp [State.endRollCall]

@[simp] theorem takeExpiry_pending (e : Exchange) : (s.takeExpiry e).pending = s.pending := by
  unfold State.takeExpiry
  split <;> simp

@[simp] theorem takeRollReply_pending (e : Exchange) (f : FrameReport) :
    (s.takeRollReply e f).pending = s.pending := (congrArg State.pending (takeRollReply_frame s e f) :)

@[simp] theorem frameAbandoned_pending : s.frameAbandoned.pending = s.pending := by
  unfold State.frameAbandoned
  split
  · split <;> simp
  · rfl

@[simp] theorem frameEnd_pending (f : FrameReport) : (s.frameEnd f).pending = s.pending := by
  unfold State.frameEnd
  split
  · split <;> simp
  · dsimp only
    split
    · split <;> simp [State.accountLate]
    · rfl

@[simp] theorem abandonFrame_pending : s.abandonFrame.pending = s.pending := by
  simp [State.abandonFrame]

@[simp] theorem takeFrameByte_pending (b : Byte) : (s.takeFrameByte b).pending = s.pending := by
  unfold State.takeFrameByte
  dsimp only
  repeat' split
  all_goals simp

@[simp] theorem takeHeldExpiry_pending : s.takeHeldExpiry.pending = s.pending := by
  unfold State.takeHeldExpiry
  split
  · split <;> simp
  · rfl

@[simp] theorem syncArrival_pending : s.syncArrival.pending = s.pending := by
  unfold State.syncArrival
  split
  · split <;> rfl
  · rfl

@[simp] theorem receiveCell_pending (cell : Cell) : (s.receiveCell cell).pending = s.pending := by
  unfold State.receiveCell
  split
  · rfl
  · split
    · split <;> simp
    all_goals simp

@[simp] theorem startBit_pending : s.startBit.pending = s.pending := by
  unfold State.startBit
  split <;> rfl

@[simp] theorem cellArrives_pending (cell : Cell) : (s.cellArrives cell).pending = s.pending := by
  have hstart : (if s.line.cell.isNone then s.startBit else s).pending = s.pending := by
    split <;> simp
  unfold State.cellArrives
  generalize (if s.line.cell.isNone then s.startBit else s) = v at *
  dsimp only
  split
  · exact hstart
  · simpa [State.endCell] using hstart

@[simp] theorem markCut_pending : s.markCut.pending = s.pending := by
  unfold State.markCut
  dsimp only
  split
  · simp
  · split <;> simp

@[simp] theorem tryCut_pending : s.tryCut.pending = s.pending := by
  unfold State.tryCut
  dsimp only
  repeat' split
  all_goals simp

@[simp] theorem markComplete_pending : s.markComplete.pending = s.pending := by
  unfold State.markComplete
  dsimp only
  split <;> simp

@[simp] theorem tryComplete_pending : s.tryComplete.pending = s.pending := by
  unfold State.tryComplete
  split
  · rfl
  · split <;> simp

@[simp] theorem closeWalk_pending : s.closeWalk.pending = s.pending := by
  by_cases hopen : s.cycle.phase ≠ .cyclic ∨ s.cycle.walk = none
  · rw [closeWalk_finished hopen]
  · obtain ⟨hphase, hsome⟩ := not_or.mp hopen
    obtain ⟨w, hwalk⟩ := Option.ne_none_iff_exists'.mp hsome
    obtain ⟨hskipped, -⟩ := skipAll_keeps ((List.finRange 32).filter (leftOver s w)) s
    rw [closeWalk_unfinished (not_not.mp hphase) hwalk]
    exact (congrArg State.pending hskipped :)

@[simp] theorem runSlot_pending (i : Fin 32) : (s.runSlot i).pending = s.pending := by
  unfold State.runSlot
  split <;> simp

@[simp] theorem offer_pending (r : Ring) : (s.offer r).1.pending = s.pending := by
  unfold State.offer
  dsimp only
  split
  · split
    · simp
    · split <;> simp [State.beginRecord]
  · rfl

@[simp] theorem considerRollCall_pending : s.considerRollCall.pending = s.pending := by
  unfold State.considerRollCall
  repeat' split
  all_goals simp

@[simp] theorem select_pending : s.select.pending = s.pending := by
  unfold State.select
  dsimp only
  split
  · simp [State.offerBoth]
  · split
    · simp
    · split <;> simp

@[simp] theorem beginMark_pending (w : MarkWant) : (s.beginMark w).pending = s.pending := by
  obtain ⟨host, hmarked⟩ := marked_fields s.applyPendingSwap
  rw [beginMark_eq s w _ rfl, hmarked]
  simp

@[simp] theorem orphan_pending (r : Ring) : (s.orphan r).pending = s.pending := by
  unfold State.orphan
  dsimp only
  repeat' split
  all_goals simp

/-! ### The commands waiting, over the operations of a host access (R78 to R189) -/

@[simp] theorem start_pending (arg : Byte) : (s.start arg).pending = s.pending := by
  unfold State.start
  split
  · rfl
  · split
    · rfl
    · split <;> rfl

@[simp] theorem stop_pending (arg : Byte) : (s.stop arg).pending = s.pending := by
  unfold State.stop
  split
  · split <;> simp [State.done, State.accepted]
  · simp [State.done]
  · simp [State.done, State.leaveLineFault]
  all_goals rfl

@[simp] theorem abort_pending (arg : Byte) : (s.abort arg).pending = s.pending := by
  unfold State.abort
  split
  · simp [State.done]
  · simp [State.done]
  · simp [State.done]
  · simp [State.done, State.leaveLineFault]
  all_goals rfl

@[simp] theorem softReset_pending (arg : Byte) : (s.softReset arg).pending = s.pending := by
  simp [State.softReset, State.done]

@[simp] theorem swap_pending (arg : Byte) : (s.swap arg).pending = s.pending := by
  unfold State.swap
  split
  · rfl
  · split
    · rfl
    · split
      · simp [State.done]
      · rfl

@[simp] theorem stationCommand_pending (code arg : Byte) (accepts : StationState → Bool) (act : Station → Station) :
    (s.stationCommand code arg accepts act).pending = s.pending := by
  unfold State.stationCommand
  split
  · rfl
  · dsimp only
    split
    · simp [State.done]
    · rfl

@[simp] theorem loseAtLimit_pending : s.loseAtLimit.pending = s.pending := by
  unfold State.loseAtLimit
  induction List.finRange 62 generalizing s with
  | nil => rfl
  | cons i slots ih =>
    rw [List.foldl_cons, ih]
    dsimp only
    split <;> simp

theorem ringCommand_pending (code arg : Byte) {effect : Ring → State} (h : ∀ r, (effect r).pending = s.pending) :
    (s.ringCommand code arg effect).pending = s.pending := by
  unfold State.ringCommand
  split
  · rfl
  · exact h _

@[simp] theorem enableRing_pending (arg : Byte) (r : Ring) : (s.enableRing arg r).pending = s.pending := by
  unfold State.enableRing
  dsimp only
  split
  · rfl
  · split
    · rfl
    · simp [State.done]

@[simp] theorem resumeRing_pending (arg : Byte) (r : Ring) : (s.resumeRing arg r).pending = s.pending := by
  unfold State.resumeRing
  dsimp only
  split
  · rfl
  · simp [State.done]

@[simp] theorem resetRing_pending (r : Ring) : (s.resetRing r).pending = s.pending := by
  simp [State.resetRing]

@[simp] theorem postRecords_pending (r : Ring) (n : Nat) : (s.postRecords r n).pending = s.pending := by
  unfold State.postRecords
  dsimp only
  repeat' split
  all_goals simp

@[simp] theorem ringConfigWrite_pending (r : Ring) (change : RingUnit → RingUnit) :
    (s.ringConfigWrite r change).pending = s.pending := by
  unfold State.ringConfigWrite
  dsimp only
  split <;> simp

theorem haltedWrite_pending {effect : State → State} (h : (effect s).pending = s.pending) :
    (s.haltedWrite effect).pending = s.pending := by
  unfold State.haltedWrite
  split
  · exact h
  · simp

end Operations
/-! ### What a command leads to -/

/-- An answer of a state goes on: it is a next state, with the same commands waiting. -/
def GoesOn (s : State) (a : Answer) : Prop := ∃ t, a = .next t ∧ t.pending = s.pending

section Answers
variable {s : State}

theorem goesOn_next {t : State} (h : t.pending = s.pending) : GoesOn s (.next t) := ⟨t, rfl, h⟩

theorem goesOn_stays : GoesOn s (.next s) := goesOn_next rfl

theorem goesOn_access {effect : State → State} (h : (effect s).pending = s.pending) :
    GoesOn s (s.hostAccess effect) := by
  unfold State.hostAccess
  split
  · exact goesOn_stays
  · exact goesOn_next h

end Answers

section Events
variable (s : State)

/-! ### The events of the line (R2, R10, R11, R17, R19) -/

theorem cellArrival_goesOn (cell : Cell) : GoesOn s (execCellArrival cell s) := by
  unfold execCellArrival
  split
  · exact goesOn_stays
  · exact goesOn_next (by simp)

theorem gapLimitExpiry_goesOn : GoesOn s (execGapLimitExpiry s) := by
  unfold execGapLimitExpiry
  split
  · exact goesOn_next (by simp)
  · exact goesOn_stays

theorem lineQuiet_goesOn : GoesOn s (execLineQuiet s) := by
  unfold execLineQuiet
  split
  · exact goesOn_next (by simp [State.becomeQuiet])
  · exact goesOn_stays

theorem echoMismatch_goesOn : GoesOn s (execEchoMismatch s) := by
  unfold execEchoMismatch
  split
  · exact goesOn_stays
  · split <;> exact goesOn_next (by simp [State.cutByEcho])

theorem transmissionComplete_goesOn : GoesOn s (execTransmissionComplete s) := by
  unfold execTransmissionComplete
  split
  · exact goesOn_stays
  · split <;> exact goesOn_next (by simp [State.txDone])

/-! ### The events of the cycle (R23, R24, R27, R31, R33) -/

theorem markDue_goesOn : GoesOn s (execMarkDue s) := by
  unfold execMarkDue
  split
  · exact goesOn_next (by simp)
  · exact goesOn_stays

theorem markBegin_goesOn : GoesOn s (execMarkBegin s) := by
  unfold execMarkBegin
  split
  · exact goesOn_stays
  · split
    · exact goesOn_next (by simp)
    · exact goesOn_stays

theorem quietWaitLimit_goesOn : GoesOn s (execQuietWaitLimit s) := by
  unfold execQuietWaitLimit
  split
  · exact goesOn_stays
  · exact goesOn_next (by simp)

theorem slotOpportunity_goesOn : GoesOn s (execSlotOpportunity s) := by
  unfold execSlotOpportunity
  split
  · exact goesOn_stays
  · split
    · split <;> exact goesOn_next (by simp)
    · exact goesOn_stays

theorem owedSelection_goesOn : GoesOn s (execOwedSelection s) := by
  unfold execOwedSelection
  split
  · exact goesOn_next (by simp)
  · exact goesOn_stays

/-! ### The events of the context, and INIT (R42, R53, R176) -/

theorem windowExpiry_goesOn : GoesOn s (execWindowExpiry s) := by
  unfold execWindowExpiry
  split
  · exact goesOn_stays
  · dsimp only
    split <;> exact goesOn_next (by simp)

theorem retryOpportunity_goesOn : GoesOn s (execRetryOpportunity s) := by
  unfold execRetryOpportunity
  split
  · exact goesOn_stays
  · split
    · split <;> exact goesOn_next (by simp)
    · exact goesOn_stays

theorem resetReleased_goesOn : GoesOn s (execResetReleased s) := by
  unfold execResetReleased
  split <;> exact goesOn_next rfl

theorem initClearingFinished_goesOn : GoesOn s (execInitClearingFinished s) := by
  unfold execInitClearingFinished
  split <;> exact goesOn_next rfl

end Events

section Commands
variable (s : State)

/-! ### The host's commands with cases of their own (R84, R93, R108, R117) -/

theorem clearSticky_goesOn (arg : Byte) : GoesOn s (execClearSticky arg s) := by
  refine goesOn_access ?_
  split
  · simp [State.done, State.clearAllSticky]
  · simp

theorem ringStatusWrite_goesOn (r : Ring) (data : Word) : GoesOn s (execRingStatusWrite r data s) := by
  refine goesOn_access ?_
  split <;> simp

theorem slotRegisterWrite_goesOn (register : SlotRegister) (data : Word) :
    GoesOn s (execSlotRegisterWrite register data s) := by
  refine goesOn_access ?_
  split <;> simp

theorem exmemDataRead_goesOn : GoesOn s (execExmemDataRead s) := by
  unfold execExmemDataRead
  split <;> exact goesOn_next rfl

/-! ### The three constructors whose operands the row bounds (log entry 16) -/

variable {s}

theorem commandCodeUnknown_goesOn {code arg : Byte} (h : (Instr.commandCodeUnknown code arg).wellFormed = true) :
    GoesOn s (execCommandCodeUnknown code arg s) := by
  have hunknown : ¬ knownCode code = true := by simpa [Instr.wellFormed] using h
  rw [execCommandCodeUnknown, if_neg hunknown]
  exact goesOn_access rfl

theorem narrowWrite_goesOn {offset : Byte} {enables : BitVec 4} {data : Word}
    (h : (Instr.narrowWrite offset enables data).wellFormed = true) :
    GoesOn s (execNarrowWrite offset enables data s) := by
  rw [execNarrowWrite, if_pos h]
  exact goesOn_access (by simp)

theorem ignoredRegisterWrite_goesOn {offset : Byte} {data : Word}
    (h : (Instr.ignoredRegisterWrite offset data).wellFormed = true) :
    GoesOn s (execIgnoredRegisterWrite offset data s) := by
  rw [execIgnoredRegisterWrite, if_pos h]
  exact goesOn_stays

end Commands

/-- Every well-formed command goes on from every state. -/
theorem exec_goesOn {c : Instr} (hc : c.wellFormed = true) (s : State) : GoesOn s (exec c s) := by
  cases c with
  | hardwareReset => exact goesOn_next rfl
  | resetReleased => exact resetReleased_goesOn s
  | initClearingFinished => exact initClearingFinished_goesOn s
  | startBit => exact goesOn_next (startBit_pending s)
  | cellArrival cell => exact cellArrival_goesOn s cell
  | gapLimitExpiry => exact gapLimitExpiry_goesOn s
  | lineQuiet => exact lineQuiet_goesOn s
  | echoMismatch => exact echoMismatch_goesOn s
  | transmissionComplete => exact transmissionComplete_goesOn s
  | markDue => exact markDue_goesOn s
  | markBegin => exact markBegin_goesOn s
  | quietWaitLimit => exact quietWaitLimit_goesOn s
  | slotOpportunity => exact slotOpportunity_goesOn s
  | owedSelection => exact owedSelection_goesOn s
  | windowExpiry => exact windowExpiry_goesOn s
  | retryOpportunity => exact retryOpportunity_goesOn s
  | memoryTransferAnswer success word => exact goesOn_next (by simp)
  | start arg => exact show GoesOn s (execStart arg s) from goesOn_access (start_pending s arg)
  | stop arg => exact show GoesOn s (execStop arg s) from goesOn_access (stop_pending s arg)
  | abort arg => exact show GoesOn s (execAbort arg s) from goesOn_access (abort_pending s arg)
  | softReset arg => exact show GoesOn s (execSoftReset arg s) from goesOn_access (softReset_pending s arg)
  | swap arg => exact show GoesOn s (execSwap arg s) from goesOn_access (swap_pending s arg)
  | queueClear arg => exact show GoesOn s (execQueueClear arg s) from goesOn_access rfl
  | admitStation arg => exact show GoesOn s (execAdmit arg s) from goesOn_access (stationCommand_pending s 6 arg _ _)
  | bar arg => exact show GoesOn s (execBar arg s) from goesOn_access (stationCommand_pending s 7 arg _ _)
  | forget arg => exact show GoesOn s (execForget arg s) from goesOn_access (stationCommand_pending s 8 arg _ _)
  | clearSticky arg => exact clearSticky_goesOn s arg
  | ringEnable arg =>
    exact show GoesOn s (execRingEnable arg s) from
      goesOn_access (ringCommand_pending s 10 arg (enableRing_pending s arg))
  | ringResume arg =>
    exact show GoesOn s (execRingResume arg s) from
      goesOn_access (ringCommand_pending s 11 arg (resumeRing_pending s arg))
  | ringReset arg =>
    exact show GoesOn s (execRingReset arg s) from
      goesOn_access (ringCommand_pending s 12 arg fun r => by simp [State.done])
  | post r data => exact show GoesOn s (execPost r data s) from goesOn_access (postRecords_pending s r _)
  | ringStatusWrite r data => exact ringStatusWrite_goesOn s r data
  | baseWrite r data => exact show GoesOn s (execBaseWrite r data s) from goesOn_access (ringConfigWrite_pending s r _)
  | lengthWrite r data =>
    exact show GoesOn s (execLengthWrite r data s) from goesOn_access (ringConfigWrite_pending s r _)
  | queuePop data => exact show GoesOn s (execQueuePop data s) from goesOn_access rfl
  | intPendingWrite data => exact show GoesOn s (execIntPendingWrite data s) from goesOn_access rfl
  | intEnableWrite data => exact show GoesOn s (execIntEnableWrite data s) from goesOn_access rfl
  | windowStatusWrite data => exact show GoesOn s (execWindowStatusWrite data s) from goesOn_access rfl
  | lineConfigWrite data =>
    exact show GoesOn s (execLineConfigWrite data s) from goesOn_access (haltedWrite_pending s (by simp))
  | cyclePeriodWrite data =>
    exact show GoesOn s (execCyclePeriodWrite data s) from goesOn_access (haltedWrite_pending s (by simp))
  | guardWrite data => exact show GoesOn s (execGuardWrite data s) from goesOn_access (by simp)
  | missLimitWrite data => exact show GoesOn s (execMissLimitWrite data s) from goesOn_access (by simp)
  | rollcallConfigWrite data => exact show GoesOn s (execRollcallConfigWrite data s) from goesOn_access (by simp)
  | notifyThresholdWrite data => exact show GoesOn s (execNotifyThresholdWrite data s) from goesOn_access (by simp)
  | holdMaskWrite data => exact show GoesOn s (execHoldMaskWrite data s) from goesOn_access rfl
  | slotSelectWrite data => exact show GoesOn s (execSlotSelectWrite data s) from goesOn_access rfl
  | slotRegisterWrite register data => exact slotRegisterWrite_goesOn s register data
  | stationSelectWrite data => exact show GoesOn s (execStationSelectWrite data s) from goesOn_access (by simp)
  | stationConfigWrite data => exact show GoesOn s (execStationConfigWrite data s) from goesOn_access (by simp)
  | exmemAddrWrite data => exact show GoesOn s (execExmemAddrWrite data s) from goesOn_access rfl
  | exmemDataRead => exact exmemDataRead_goesOn s
  | exmemDataWrite data => exact show GoesOn s (execExmemDataWrite data s) from goesOn_access rfl
  | commandCodeUnknown code arg => exact commandCodeUnknown_goesOn hc
  | narrowWrite offset enables data => exact narrowWrite_goesOn hc
  | ignoredRegisterWrite offset data => exact ignoredRegisterWrite_goesOn hc

/-- Every ill-formed term is refused by name, whatever the state (log entry 16). -/
theorem exec_illFormed {c : Instr} (hc : c.wellFormed = false) (s : State) :
    ∃ m, exec c s = .refused (.illFormed m) := by
  cases c with
  | commandCodeUnknown code arg =>
    have hknown : knownCode code = true := by simpa [Instr.wellFormed] using hc
    exact ⟨_, if_pos hknown⟩
  | narrowWrite offset enables data => exact ⟨_, if_neg (by simp [hc])⟩
  | ignoredRegisterWrite offset data => exact ⟨_, if_neg (by simp [hc])⟩
  | _ => cases hc

/-! ### Runs -/

/-- The events that the part takes by itself are commands of the part. -/
theorem dueEvent_wellFormed {s : State} {c : Instr} (h : s.dueEvent = some c) : c.wellFormed = true := by
  unfold State.dueEvent at h
  repeat' split at h
  all_goals cases h
  all_goals rfl

/-- A step of a well-fed state goes on to a well-fed state. -/
theorem step_wellFed {s : State} (hs : s.wellFed) : ∃ t, step s = .next t ∧ t.wellFed := by
  unfold step
  split
  · rename_i c rest hqueue
    rw [State.wellFed, hqueue, List.forall_mem_cons] at hs
    obtain ⟨hc, hrest⟩ := hs
    obtain ⟨t, hexec, hpending⟩ := exec_goesOn hc { s with pending := rest }
    exact ⟨t, hexec, by rwa [State.wellFed, hpending]⟩
  · unfold idleStep
    split
    · rename_i c hdue
      obtain ⟨t, hexec, hpending⟩ := exec_goesOn (dueEvent_wellFormed hdue) s
      exact ⟨t, hexec, by rwa [State.wellFed, hpending]⟩
    · have hpending : s.bitTime.pending = s.pending := by
        unfold State.bitTime
        split <;> simp
      exact ⟨_, rfl, by rwa [State.wellFed, hpending]⟩

theorem run_succ (k : Nat) {s u : State} (h : step s = .next u) :
    Host.Core.run Sys2Proof.core (k + 1) s = Host.Core.run Sys2Proof.core k u := by
  have hstep : Sys2Proof.core.step s = .next u := h
  simp only [Host.Core.run, hstep]

/-- A run of any length from a well-fed state ends in a next state. -/
theorem run_next_of_wellFed (k : Nat) {s : State} (hs : s.wellFed) : ∃ t, Host.Core.run Sys2Proof.core k s = .next t := by
  induction k generalizing s with
  | zero => exact ⟨s, rfl⟩
  | succ k ih =>
    obtain ⟨u, hstep, hu⟩ := step_wellFed hs
    obtain ⟨t, hrun⟩ := ih hu
    exact ⟨t, (run_succ k hstep).trans hrun⟩

/-- Settles O3, by induction on the length of the run: each step keeps the queue well-fed. -/
theorem runsOverCommandsNeverStop : Obligations.RunsOverCommandsNeverStop :=
  ⟨fun k _ hs => run_next_of_wellFed k hs, fun _ s hc => exec_illFormed hc s⟩

end Sys2Proof.Machine.EngineStates
end

section
namespace Sys2Proof.Machine.EngineStates

/-! ### START (R180) -/

section Start
variable (arg : Byte) {s : State}

theorem exec_start (hs : s.engine ≠ .init) : exec (.start arg) s = .next (s.start arg) :=
  show execStart arg s = _ from State.hostAccess_taken hs _

theorem exec_start_refused (hs : s.engine ≠ .init) (h : s.engine ≠ .halted) :
    exec (.start arg) s = .next (s.refusedState 1 arg s.engine.code) := by
  rw [exec_start arg hs, State.start, if_pos h]

variable (h : s.engine = .halted)
include h

theorem exec_start_shortPeriod (hperiod : s.settings.period < 114 + s.settings.guard) :
    exec (.start arg) s = .next (s.refusedInvalid 1 arg .period 0) := by
  rw [exec_start arg (by simp [h]), State.start, if_neg (not_not.mpr h), Config.firstOpportunity, if_pos hperiod]

variable (hperiod : 114 + s.settings.guard ≤ s.settings.period)
include hperiod

theorem exec_start_invalid {reason : Invalid} {index : Byte}
    (hverdict : s.validate s.schedule.activePage = some (reason, index)) :
    exec (.start arg) s = .next (s.refusedInvalid 1 arg reason index) := by
  rw [exec_start arg (by simp [h]), State.start, if_neg (not_not.mpr h), Config.firstOpportunity,
    if_neg (not_lt.mpr hperiod), hverdict]

theorem exec_start_starts (hverdict : s.validate s.schedule.activePage = none) :
    exec (.start arg) s = .next (State.done { s with
      engine := .starting
      cycle := { s.cycle with phase := .mark, want := some { cause := .first, age := 0 } } } 1 arg) := by
  rw [exec_start arg (by simp [h]), State.start, if_neg (not_not.mpr h), Config.firstOpportunity,
    if_neg (not_lt.mpr hperiod), hverdict]

end Start

/-- Settles O40: the branches of START's decision, each decision one update of COMMAND_STATUS. -/
theorem startIsDecidedInOrder : Obligations.StartIsDecidedInOrder := fun arg _ =>
  ⟨exec_start_refused arg, exec_start_shortPeriod arg,
    fun _ _ h hperiod hverdict => exec_start_invalid arg h hperiod hverdict, exec_start_starts arg⟩

end Sys2Proof.Machine.EngineStates
end

section
namespace Sys2Proof.Machine.EngineStates

/-! ### STOP (R183, R187, R188) -/

/-- The entry to HALTED is the update of the engine, the cycle, the receiver and the late watch, and then the swap and
the flag (R27, R33, R188). -/
theorem enterHalted_eq (s : State) : s.enterHalted = State.afterHalting { s with
    engine := .halted
    cycle := { s.cycle with want := none, owed := false }
    line := { s.line with rx := { s.line.rx with state := .idle } }
    lateWatch := none, lateFrame := none } := rfl

theorem workInFlight_iff (s : State) :
    s.workInFlight = true ↔ (∃ e, s.context = some e) ∨ ∃ x, s.line.tx = some x ∧ x.user = .mark := by
  simp [State.workInFlight, Option.isSome_iff_exists, Option.any_eq_true]

section Stop
variable (arg : Byte) {s : State}

theorem exec_stop (hs : s.engine ≠ .init) : exec (.stop arg) s = .next (s.stop arg) :=
  show execStop arg s = _ from State.hostAccess_taken hs _

theorem exec_stop_refused (h : s.engine = .halted ∨ s.engine = .stopping) :
    exec (.stop arg) s = .next (s.refusedState 2 arg s.engine.code) := by
  rcases h with h | h <;> rw [exec_stop arg (by simp [h]), State.stop, h]

theorem exec_stop_starting (h : s.engine = .starting) :
    exec (.stop arg) s = .next (s.enterHalted.done 2 arg) := by
  rw [exec_stop arg (by simp [h]), State.stop, h]

theorem exec_stop_idle (h : s.engine = .running) (hidle : ¬ s.workInFlight = true) :
    exec (.stop arg) s = .next (s.enterHalted.done 2 arg) := by
  rw [exec_stop arg (by simp [h]), State.stop, h]
  exact congrArg _ (if_neg hidle)

theorem exec_stop_working (h : s.engine = .running) (hwork : s.workInFlight = true) :
    exec (.stop arg) s = .next (State.accepted { s.dropCycleWork with engine := .stopping } 2 arg) := by
  rw [exec_stop arg (by simp [h]), State.stop, h]
  exact congrArg _ (if_pos hwork)

theorem exec_stop_lineFault (h : s.engine = .lineFault) :
    exec (.stop arg) s = .next (s.leaveLineFault.done 2 arg) := by
  rw [exec_stop arg (by simp [h]), State.stop, h]

end Stop

/-- Settles O42: STOP's decision by engine state, with the entry to HALTED written out. -/
theorem stopByEngineState : Obligations.StopByEngineState := by
  refine ⟨fun _ _ _ _ _ _ => rfl, fun arg s halted hhalted => ?_⟩
  have hdone : s.enterHalted.done 2 arg = halted := by rw [hhalted, enterHalted_eq]; rfl
  refine ⟨exec_stop_refused arg, fun h => ?starting, fun h hcontext htx => ?idle, fun e h hwork => ?working,
    fun h => ?lineFault⟩
  case starting => rw [exec_stop_starting arg h, hdone]
  case idle =>
    have hidle : ¬ s.workInFlight = true := by
      rw [workInFlight_iff, hcontext]
      rintro (⟨e, he⟩ | ⟨x, hx, hmark⟩)
      · cases he
      · exact htx x hx hmark
    rw [exec_stop_idle arg h hidle, hdone]
  case working =>
    have hflight : s.workInFlight = true := (workInFlight_iff s).mpr (hwork.imp_left fun he => ⟨e, he⟩)
    rw [exec_stop_working arg h hflight]
    rfl
  case lineFault =>
    rw [exec_stop_lineFault arg h, ← hdone]
    rfl

end Sys2Proof.Machine.EngineStates
end

section
namespace Sys2Proof.Machine.EngineStates

/-! ### The state after RESET (R176) -/

/-- Settles O4: every bound is one of a reset value, every station record is reset, and rings, requests and context
are empty. -/
theorem resetMeetsTheInvariants : Obligations.ResetMeetsTheInvariants := by
  obtain ⟨hplaced, hrings⟩ : Consistency.Consistent State.reset :=
    Consistency.consistent_off rfl (fun r => by cases r <;> exact ⟨_, _, rfl⟩) (.inl rfl)
  refine ⟨?queue, ?streak, State.reset_exmem_wf, ?settings, ?counts, StationTable.reset_stations_consistent rfl,
    hplaced, hrings⟩
  case queue => exact ⟨Nat.zero_le _, Nat.zero_le _⟩
  case streak => exact ⟨Nat.zero_le _, fun h => by cases h⟩
  case settings => decide
  case counts => decide

/-- The part once INIT has ended after a hardware reset: in HALTED, with everything else at its reset value (R176). -/
def afterInit : State := { State.reset with resetAsserted := false, engine := .halted }

theorem runCommands_init : runCommands [.resetReleased, .initClearingFinished] State.reset = .next afterInit := rfl

/-- Settles O13: the reads of the one state in which INIT ends, which the kernel evaluates. -/
theorem registersReadTheirResetValues : Obligations.RegistersReadTheirResetValues :=
  ⟨afterInit, runCommands_init, rfl⟩

end Sys2Proof.Machine.EngineStates
end

section
namespace Sys2Proof.Machine.RegisterWindow

/-! ### Fields of a word put together from fields (R195, R197, R198)

The words are `fieldAt` and `flagAt` terms laid over each other. A place reads the field that stands there, and the
fields above and below it give 0: as `simp` lemmas, with `omega` for the places and the bounds of the values. -/

theorem testBit_fieldOf (w : Word) (lo len i : Nat) :
    (fieldOf w lo len).testBit i = (decide (i < len) && w.getLsbD (lo + i)) := by
  rw [fieldOf, BitVec.testBit_toNat, BitVec.getLsbD_extractLsb']

theorem getLsbD_fieldAt (p v i : Nat) :
    (fieldAt p v).getLsbD i = (decide (i < 32) && decide (p ≤ i) && v.testBit (i - p)) := by
  rw [fieldAt, BitVec.getLsbD_shiftLeft, BitVec.getLsbD_ofNat]
  by_cases hp : p ≤ i
  · by_cases hi : i < 32
    · simp [hp, hi, not_lt.mpr hp, show i - p < 32 by omega]
    · simp [hi]
  · simp [hp, not_le.mp hp]

/-- A field of two words laid over each other is their fields laid over each other. -/
@[simp] theorem fieldOf_or (a b : Word) (lo len : Nat) :
    fieldOf (a ||| b) lo len = fieldOf a lo len ||| fieldOf b lo len := by
  apply Nat.eq_of_testBit_eq
  intro i
  simp only [Nat.testBit_or, testBit_fieldOf, BitVec.getLsbD_or, Bool.and_or_distrib_left]

/-- A field of clear bits is 0. -/
theorem fieldOf_eq_zero {w : Word} {lo len : Nat} (h : ∀ i < len, w.getLsbD (lo + i) = false) :
    fieldOf w lo len = 0 := by
  apply Nat.eq_of_testBit_eq
  intro i
  rw [testBit_fieldOf, Nat.zero_testBit]
  by_cases hi : i < len
  · rw [h i hi, Bool.and_false]
  · simp [hi]

section Placed
variable {p lo len v i : Nat}

theorem getLsbD_fieldAt_above (h : i < p) : (fieldAt p v).getLsbD i = false := by
  simp [getLsbD_fieldAt, h]

theorem getLsbD_fieldAt_below (h : v < 2 ^ (i - p)) : (fieldAt p v).getLsbD i = false := by
  simp [getLsbD_fieldAt, Nat.testBit_lt_two_pow h]

/-- A bit below a field does not show it. -/
@[simp] theorem getElem_fieldAt_above (h : i < p) {hi : i < 32} : (fieldAt p v)[i] = false :=
  getLsbD_fieldAt_above h

/-- A bit above a field does not show it. -/
@[simp] theorem getElem_fieldAt_below (h : v < 2 ^ (i - p)) {hi : i < 32} : (fieldAt p v)[i] = false :=
  getLsbD_fieldAt_below h

/-- A field reads back from its own place. -/
@[simp] theorem fieldOf_fieldAt (hlen : lo + len ≤ 32) (hv : v < 2 ^ len) : fieldOf (fieldAt lo v) lo len = v := by
  apply Nat.eq_of_testBit_eq
  intro i
  rw [testBit_fieldOf, getLsbD_fieldAt]
  by_cases hi : i < len
  · simp [hi, show lo + i < 32 by omega]
  · have hlarge : v < 2 ^ i := lt_of_lt_of_le hv (Nat.pow_le_pow_right (by decide) (not_lt.mp hi))
    simp [hi, Nat.testBit_lt_two_pow hlarge]

/-- A place below a field does not show it. -/
@[simp] theorem fieldOf_fieldAt_above (h : lo + len ≤ p) : fieldOf (fieldAt p v) lo len = 0 :=
  fieldOf_eq_zero fun _ _ => getLsbD_fieldAt_above (by omega)

/-- A place above a field does not show it. -/
@[simp] theorem fieldOf_fieldAt_below (h : p ≤ lo) (hv : v < 2 ^ (lo - p)) : fieldOf (fieldAt p v) lo len = 0 :=
  fieldOf_eq_zero fun _ _ => getLsbD_fieldAt_below (lt_of_lt_of_le hv (Nat.pow_le_pow_right (by decide) (by omega)))

theorem flag_lt (b : Bool) (h : p < i) : b.toNat < 2 ^ (i - p) :=
  lt_of_lt_of_le (Bool.toNat_lt b) (Nat.le_self_pow (by omega) 2)

/-- A flag reads back from its own bit. -/
@[simp] theorem getElem_flagAt (b : Bool) {h : p < 32} : (flagAt p b)[p] = b := by
  rw [← BitVec.getLsbD_eq_getElem, flagAt, getLsbD_fieldAt]
  cases b <;> simp [h]

/-- No other bit shows a flag. -/
@[simp] theorem getElem_flagAt_ne (b : Bool) (h : i < p ∨ p < i) {hi : i < 32} : (flagAt p b)[i] = false :=
  h.elim (fun h => getElem_fieldAt_above h) fun h => getElem_fieldAt_below (flag_lt b h)

/-- No place beside a flag's bit shows it. -/
@[simp] theorem fieldOf_flagAt (b : Bool) (h : lo + len ≤ p ∨ p < lo) : fieldOf (flagAt p b) lo len = 0 :=
  h.elim fieldOf_fieldAt_above fun h => fieldOf_fieldAt_below h.le (flag_lt b h)

end Placed

/-! ### Codes (R56, R90, R162, R179) -/

@[simp] theorem fieldAt_ringCode (p : Nat) (r : Ring) : fieldAt p (ringCode r) = flagAt p (r = .n) := by
  cases r <;> rfl

@[simp] theorem fieldAt_pageCode (p : Nat) (page : PageNumber) : fieldAt p page.code = flagAt p (page = .one) := by
  cases page <;> rfl


theorem entryKind_code_lt (k : EntryKind) : k.code < 8 := by cases k <;> decide

/-! A code names its state: the place of each code in the list holds the constructor of that code. -/

theorem engine_of_code {n : Nat} {e : Engine} (h : n = e.code) :
    [Engine.init, .halted, .starting, .running, .stopping, .lineFault][n]? = some e := by
  subst h
  cases e <;> rfl

theorem phase_of_code {n : Nat} {p : Phase} (h : n = p.code) : [Phase.mark, .cyclic, .opened][n]? = some p := by
  subst h
  cases p <;> rfl

theorem decision_of_code {n : Nat} {d : Decision} (h : n = d.code) :
    [Decision.none, .done, .accepted, .refusedState, .refusedArgument, .refusedInvalid][n]? = some d := by
  subst h
  cases d <;> rfl

theorem stationState_of_code {n : Nat} {x : StationState} (h : n = x.code) :
    [StationState.absent, .joining, .active, .suspect, .lost, .barred][n]? = some x := by
  subst h
  cases x <;> rfl

theorem reportMode_of_code {n : Nat} {m : ReportMode} (h : n = m.code) :
    [ReportMode.never, .onFault, .always][n]? = some m := by
  subst h
  cases m <;> rfl

theorem ringState_of_code {n : Nat} {x : RingState} (h : n = x.code) :
    [RingState.off, .active, .halted][n]? = some x := by
  subst h
  cases x <;> rfl

theorem haltReason_of_code {n : Nat} {x : HaltReason} (h : n = x.code) :
    [HaltReason.none, .ownership, .fetchFault, .writebackFault][n]? = some x := by
  subst h
  cases x <;> rfl

/-- So a code is below the number of constructors. -/
theorem code_lt_of_getElem? {α : Type} {l : List α} {n : Nat} {x : α} (h : l[n]? = some x) : n < l.length :=
  (List.getElem?_eq_some_iff.mp h).1

end Sys2Proof.Machine.RegisterWindow
end

section
namespace Sys2Proof.Machine.RegisterWindow

/-! ### The words of a returned record (R197) -/

theorem triesField_lt {tries : Nat} (reissued : Bool) (h : tries ≤ 4) : triesField tries reissued < 8 := by
  unfold triesField
  split <;> omega

section Tries
variable {tries tries' : Nat} {reissued reissued' : Bool}

/-- REISSUED shows in the tries field, since it takes at least two tries (R197). -/
theorem five_le_triesField_iff (h : tries ≤ 4) (hreissued : reissued = true → 2 ≤ tries) :
    5 ≤ triesField tries reissued ↔ reissued = true := by
  cases reissued with
  | false =>
    simp [triesField]
    omega
  | true =>
    have := hreissued rfl
    simp [triesField]
    omega

theorem triesField_injective (h : tries ≤ 4) (hreissued : reissued = true → 2 ≤ tries) (h' : tries' ≤ 4)
    (hreissued' : reissued' = true → 2 ≤ tries')
    (heq : triesField tries reissued = triesField tries' reissued') : tries = tries' ∧ reissued = reissued' := by
  have hsame : reissued = reissued' := by
    rw [Bool.eq_iff_iff, ← five_le_triesField_iff h hreissued, heq, five_le_triesField_iff h' hreissued']
  subst hsame
  refine ⟨?_, rfl⟩
  unfold triesField at heq
  split at heq <;> omega

end Tries

section Words
variable {w : Word}

theorem statusWord4_fields {result : Result} {len tries : Nat} {reissued : Bool} {cycle : BitVec 16}
    (hw : w = statusWord4 result len tries reissued cycle) (hlen : len ≤ 120) (htries : tries ≤ 4) :
    w.getLsbD 0 = false ∧ fieldOf w 1 5 = result.code.toNat ∧ fieldOf w 6 7 = len
      ∧ fieldOf w 13 3 = triesField tries reissued ∧ fieldOf w 16 16 = cycle.toNat := by
  subst hw
  have := triesField_lt reissued htries
  simp (disch := omega) [statusWord4]

theorem statusWord5_fields {causes : KindSet} {condition : BitVec 4} (hw : w = statusWord5 causes condition) :
    fieldOf w 0 10 = causes.toNat ∧ fieldOf w 16 4 = condition.toNat
      ∧ fieldOf w 10 6 = 0 ∧ fieldOf w 20 12 = 0 := by
  subst hw
  simp (disch := omega) [statusWord5]

/-! ### The queue heads (R198) -/

theorem head0_fields {e : Entry} (hw : w = e.head0) :
    fieldOf w 0 3 = e.kind.code ∧ fieldOf w 3 5 = e.code.toNat
      ∧ w.getLsbD 8 = e.reissued ∧ w.getLsbD 9 = e.duplicate ∧ w.getLsbD 10 = e.late
      ∧ w.getLsbD 11 = decide (e.ring = .n) ∧ fieldOf w 12 6 = e.station.toNat
      ∧ fieldOf w 18 8 = e.index.toNat ∧ fieldOf w 26 6 = 0 := by
  subst hw
  have := entryKind_code_lt e.kind
  simp (disch := omega) [Entry.head0]

theorem head1_fields {e : Entry} (hw : w = e.head1) :
    fieldOf w 0 16 = e.cycle.toNat ∧ fieldOf w 16 10 = e.causes.toNat ∧ fieldOf w 26 6 = 0 := by
  subst hw
  simp (disch := omega) [Entry.head1]

/-! ### The words of the registers (R88, R92, R105, R117, R179, R191) -/

theorem engineStatus_fields {s : State} (hw : w = s.engineStatus) :
    [Engine.init, .halted, .starting, .running, .stopping, .lineFault][fieldOf w 0 3]? = some s.engine
      ∧ [Phase.mark, .cyclic, .opened][fieldOf w 4 2]? = some s.cycle.phase
      ∧ w.getLsbD 8 = decide (s.schedule.active = .one) ∧ w.getLsbD 9 = s.schedule.swapPending
      ∧ (s.line.streak ≤ 4 → fieldOf w 12 3 = s.line.streak ∧ fieldOf w 15 17 = 0)
      ∧ fieldOf w 3 1 = 0 ∧ fieldOf w 6 2 = 0 ∧ fieldOf w 10 2 = 0 := by
  subst hw
  have hengine : s.engine.code < 6 := code_lt_of_getElem? (engine_of_code rfl)
  have hphase : s.cycle.phase.code < 3 := code_lt_of_getElem? (phase_of_code rfl)
  refine ⟨engine_of_code ?_, phase_of_code ?_, ?_, ?_, fun hstreak => ?_, ?_⟩ <;>
    simp (disch := omega) [State.engineStatus]

theorem commandStatus_fields {c : CommandStatus} (hw : w = c.word) :
    fieldOf w 0 8 = c.code.toNat ∧ fieldOf w 8 8 = c.arg.toNat
      ∧ [Decision.none, .done, .accepted, .refusedState, .refusedArgument, .refusedInvalid][fieldOf w 16 3]?
        = some c.decision
      ∧ fieldOf w 20 4 = c.detail.toNat ∧ fieldOf w 24 8 = c.index.toNat ∧ fieldOf w 19 1 = 0 := by
  subst hw
  have hdecision : c.decision.code < 6 := code_lt_of_getElem? (decision_of_code rfl)
  refine ⟨?_, ?_, decision_of_code ?_, ?_⟩ <;> simp (disch := omega) [CommandStatus.word]

theorem rollcallConfig_fields {x : Settings} (hw : w =
      (flagAt 0 x.rollEnable ||| fieldAt 8 x.rollInterval ||| fieldAt 16 x.rollWindow)) (hx : x.inRange) :
    w.getLsbD 0 = x.rollEnable ∧ fieldOf w 8 8 = x.rollInterval ∧ fieldOf w 16 11 = x.rollWindow
      ∧ fieldOf w 1 7 = 0 ∧ fieldOf w 27 5 = 0 := by
  subst hw
  obtain ⟨-, -, -, hinterval, hwindow, -⟩ := hx
  simp (disch := omega)

theorem slotSelect_fields {x : Schedule} (hw : w = (fieldAt 0 x.select.val ||| flagAt 8 (x.view = .active))) :
    fieldOf w 0 5 = x.select.val ∧ w.getLsbD 8 = decide (x.view = .active)
      ∧ fieldOf w 5 3 = 0 ∧ fieldOf w 9 23 = 0 := by
  subst hw
  simp (disch := omega)

theorem slotStation_fields {x : Slot} (hw : w = x.stationWord) :
    fieldOf w 0 6 = x.station.toNat ∧ fieldOf w 8 4 = x.function.toNat
      ∧ fieldOf w 16 5 = x.rate.toNat ∧ fieldOf w 24 4 = x.phase.toNat
      ∧ [ReportMode.never, .onFault, .always][fieldOf w 28 2]? = some x.report ∧ w.getLsbD 31 = x.enable
      ∧ fieldOf w 6 2 = 0 ∧ fieldOf w 12 4 = 0 ∧ fieldOf w 21 3 = 0 ∧ fieldOf w 30 1 = 0 := by
  subst hw
  have hreport : x.report.code < 3 := code_lt_of_getElem? (reportMode_of_code rfl)
  refine ⟨?_, ?_, ?_, ?_, reportMode_of_code ?_, ?_⟩ <;> simp (disch := omega) [Slot.stationWord]

/-- An area of the exchange memory in SLOT_OUT or SLOT_IN: its offset and its length (R92). -/
theorem slotArea_fields {offset : BitVec 12} {length : Byte}
    (hw : w = (fieldAt 0 offset.toNat ||| fieldAt 16 length.toNat)) :
    fieldOf w 0 12 = offset.toNat ∧ fieldOf w 16 8 = length.toNat ∧ fieldOf w 12 4 = 0 ∧ fieldOf w 24 8 = 0 := by
  subst hw
  simp (disch := omega)

theorem slotResult_fields {y : SlotStatus} (hw : w = slotResultWord (some y)) :
    fieldOf w 0 5 = y.result.code.toNat ∧ fieldOf w 8 16 = y.cycle.toNat ∧ w.getLsbD 31 = true
      ∧ fieldOf w 5 3 = 0 ∧ fieldOf w 24 7 = 0 := by
  subst hw
  simp (disch := omega) [slotResultWord]

theorem stationState_fields {x : Station} (hw : w = x.stateWord) :
    [StationState.absent, .joining, .active, .suspect, .lost, .barred][fieldOf w 0 3]? = some x.state
      ∧ (x.missCount ≤ 7 →
        fieldOf w 4 3 = x.missCount ∧ fieldOf w 8 3 = x.nextTag.toNat
          ∧ (x.maxPayload ≤ 120 → fieldOf w 16 7 = x.maxPayload ∧ fieldOf w 23 9 = 0)
          ∧ fieldOf w 7 1 = 0 ∧ fieldOf w 11 5 = 0)
      ∧ fieldOf w 3 1 = 0 := by
  subst hw
  have hstate : x.state.code < 6 := code_lt_of_getElem? (stationState_of_code rfl)
  refine ⟨stationState_of_code ?_, fun hmisses => ⟨?_, ?_, fun hpayload => ?_, ?_⟩, ?_⟩ <;>
    simp (disch := omega) [Station.stateWord]

theorem identity_absent {x : Station} (h : x.identity = none) : x.ident0 = 0 ∧ x.ident1 = 0 := by
  simp [Station.ident0, Station.ident1, h]

/-- An identity's first word is its revision above its type, and its second the serial (R88). -/
theorem identity_present {x : Station} {id : Identity} (h : x.identity = some id) :
    x.ident0 = id.revision ++ id.type ∧ x.ident1 = id.serial := by
  refine ⟨?_, by simp [Station.ident1, h]⟩
  have htype := id.type.isLt
  have hrevision := id.revision.isLt
  rw [Station.ident0, h]
  apply BitVec.eq_of_toNat_eq
  simp only [fieldAt, BitVec.toNat_or, BitVec.toNat_shiftLeft, BitVec.toNat_ofNat, BitVec.toNat_append,
    Nat.shiftLeft_eq]
  rw [Nat.or_comm]
  congr 1 <;> omega

theorem stationConfig_fields {x : Station} (hw : w = x.configWord) (hwindow : x.window ≤ 2047) :
    fieldOf w 0 11 = x.window ∧ fieldOf w 16 10 = x.alertMask.toNat ∧ w.getLsbD 31 = x.search
      ∧ fieldOf w 11 5 = 0 ∧ fieldOf w 26 5 = 0 := by
  subst hw
  simp (disch := omega) [Station.configWord]

theorem stickySet_fields {x : KindSet} (hw : w = fieldAt 0 x.toNat) :
    fieldOf w 0 10 = x.toNat ∧ fieldOf w 10 22 = 0 := by
  subst hw
  simp (disch := omega)

theorem ringStatus_fields {x : RingUnit} (hw : w = x.statusWord) :
    [RingState.off, .active, .halted][fieldOf w 0 2]? = some x.state
      ∧ [HaltReason.none, .ownership, .fetchFault, .writebackFault][fieldOf w 2 2]? = some x.reason
      ∧ w.getLsbD 4 = decide (x.stage = .staged) ∧ w.getLsbD 5 = x.postRefused
      ∧ (x.head ≤ 255 → fieldOf w 8 8 = x.head)
      ∧ (x.head ≤ 255 → x.pending ≤ 511 → fieldOf w 16 9 = x.pending ∧ fieldOf w 25 7 = 0)
      ∧ fieldOf w 6 2 = 0 := by
  subst hw
  have hstate : x.state.code < 3 := code_lt_of_getElem? (ringState_of_code rfl)
  have hreason : x.reason.code < 4 := code_lt_of_getElem? (haltReason_of_code rfl)
  refine ⟨ringState_of_code ?_, haltReason_of_code ?_, ?_, ?_, fun hhead => ?_, fun hhead hpending => ?_, ?_⟩ <;>
    simp (disch := omega) [RingUnit.statusWord]

theorem queueStatus_fields {q : CompletionQueue}
    (hw : w = (fieldAt 0 q.entries.length ||| fieldAt 8 q.overflow)) (hentries : q.entries.length ≤ 32)
    (hoverflow : q.overflow ≤ 255) :
    fieldOf w 0 6 = q.entries.length ∧ fieldOf w 8 8 = q.overflow ∧ fieldOf w 6 2 = 0 ∧ fieldOf w 16 16 = 0 := by
  subst hw
  simp (disch := omega)

/-- A register of one field from bit 0 holds the field's value. -/
theorem toNat_of_eq_fieldAt {v : Nat} (hw : w = fieldAt 0 v) (hv : v < 4294967296) : w.toNat = v := by
  subst hw
  simp [fieldAt, Nat.mod_eq_of_lt hv]

end Words

/-! ### Bytes of words (R108) -/

theorem wordBytes_eq (w : Word) : wordBytes w = (List.range 4).map fun k => BitVec.ofNat 8 (w.toNat / 256 ^ k) := by
  apply List.ext_getElem?
  intro k
  by_cases hk : k < 4
  · simp [TheCycle.wordBytes_getElem? w hk, hk]
  · simp [wordBytes, hk]

/-- The word that EXMEM_DATA shows holds the byte at each offset in its lane (R108). -/
theorem wordAt_fields (m : Memory) {a k : Nat} (ha : a + 4 ≤ 4096) (hk : k < 4) :
    fieldOf (m.wordAt a) (8 * k) 8 = (m.byteAt (a + k)).toNat := by
  rw [SchedulePages.fieldOf_eq, SchedulePages.wordAt_toNat m ha]
  have h0 := (m.byteAt a).isLt
  have h1 := (m.byteAt (a + 1)).isLt
  have h2 := (m.byteAt (a + 2)).isLt
  have h3 := (m.byteAt (a + 3)).isLt
  interval_cases k <;> norm_num <;> omega

/-! ### The sticky maps (R159) -/

/-- Setting one bit for each member of a list that meets a test sets the bits that such members name. -/
theorem getLsbD_foldl_setBit {α : Type} (test : α → Bool) (bit : α → Nat) (l : List α) (w : Word) {k : Nat}
    (hk : k < 32) :
    (l.foldl (fun w a => if test a then w ||| fieldAt (bit a) 1 else w) w).getLsbD k
      = (w.getLsbD k || l.any fun a => test a && bit a == k) := by
  induction l generalizing w with
  | nil => simp
  | cons a l ih =>
    have hbit : (fieldAt (bit a) 1).getLsbD k = (bit a == k) := by
      change (flagAt (bit a) true).getLsbD k = _
      rw [BitVec.getLsbD_eq_getElem hk]
      by_cases hsame : bit a = k
      · subst hsame
        rw [getElem_flagAt, beq_self_eq_true]
      · rw [getElem_flagAt_ne true (by omega), beq_eq_false_iff_ne.mpr hsame]
    rw [List.foldl_cons, ih, List.any_cons]
    cases test a
    · simp
    · simp only [if_true, BitVec.getLsbD_or, hbit, Bool.true_and, Bool.or_assoc]

section StickyMap
variable (s : State) {low high base : Nat}

/-- A bit of a sticky map: the station of that bit has a sticky set that is not empty. -/
theorem getLsbD_stickyMap {k : Nat} (hk : k < 32) :
    (s.stickyMap low high base).getLsbD k = true ↔
      ∃ i : Fin 62, low ≤ i.val + 1 ∧ i.val + 1 ≤ high ∧ (s.stations[i]).sticky ≠ 0 ∧ i.val + 1 - base = k := by
  have hfold := getLsbD_foldl_setBit
    (fun i : Fin 62 => low ≤ i.val + 1 && i.val + 1 ≤ high && (s.stations[i]).sticky != 0)
    (fun i => i.val + 1 - base) (List.finRange 62) 0 hk
  rw [State.stickyMap, hfold]
  simp [and_assoc]

theorem stickyMap_station {i : Fin 62} (hbase : base ≤ low) (hlow : low ≤ i.val + 1) (hhigh : i.val + 1 ≤ high)
    (hbit : i.val + 1 - base < 32) :
    (s.stickyMap low high base).getLsbD (i.val + 1 - base) = decide ((s.stations[i]).sticky ≠ 0) := by
  rw [Bool.eq_iff_iff, getLsbD_stickyMap s hbit, decide_eq_true_iff]
  constructor
  · rintro ⟨j, hj, -, hsticky, hsame⟩
    obtain rfl : j = i := Fin.ext (by omega)
    exact hsticky
  · exact fun hsticky => ⟨i, hlow, hhigh, hsticky, rfl⟩

theorem stickyMap_unassigned {k : Nat} (hk : k < 32) (h : k + base < low ∨ high < k + base) (hbase : base ≤ low) :
    (s.stickyMap low high base).getLsbD k = false := by
  rw [Bool.eq_false_iff, Ne, getLsbD_stickyMap s hk]
  rintro ⟨i, hlow, hhigh, -, hbit⟩
  omega

end StickyMap

end Sys2Proof.Machine.RegisterWindow
end

section
namespace Sys2Proof.Machine.RegisterWindow

/-! ### Reads by offset (R92, R166, R194)

Outside INIT a read of a fixed offset is its register's word, once the offset is evaluated: `if_neg` below. -/

theorem shownSlot_eq (s : State) : s.shownSlot =
    (if s.schedule.view = .edit then s.schedule.editPage else s.schedule.activePage)[s.schedule.select] := by
  unfold State.shownSlot
  cases s.schedule.view <;> rfl

section Reads
variable {s : State}

/-- Bits 1 and 0 of an offset take no part (R194). -/
theorem read_aligned (s : State) (o : Byte) : s.read o = s.read (o &&& 0xFC) := by
  have haligned : (o &&& 0xFC).toNat = o.toNat / 4 * 4 := SchedulePages.toNat_and_not_mask_eq 8 2 o
  have hposition : wordPosition (o &&& 0xFC) = wordPosition o := by
    rw [wordPosition, wordPosition, haligned]
    omega
  rw [State.read, State.read, hposition]

variable (hs : s.engine ≠ .init)
include hs

theorem read_stickyMaps : s.read 0x74 = s.stickyMap 1 31 0 ∧ s.read 0x78 = s.stickyMap 32 62 32 :=
  ⟨if_neg hs, if_neg hs⟩

theorem read_identity : s.read 0x64 = (s.station s.stationSelect).ident0
    ∧ s.read 0x68 = (s.station s.stationSelect).ident1 := ⟨if_neg hs, if_neg hs⟩

theorem read_queueHeads : s.read 0xA0 = s.headWord Entry.head0 ∧ s.read 0xA4 = s.headWord Entry.head1 :=
  ⟨if_neg hs, if_neg hs⟩

/-- No register lies above QUEUE_STATUS (R194). -/
theorem read_unmapped {o : Byte} (ho : 0xB0 ≤ o.toNat) : s.read o = 0 := by
  have hposition : 0xB0 ≤ 4 * wordPosition o := by
    rw [wordPosition]
    omega
  rw [State.read, if_neg hs]
  split
  case h_40 => rfl
  all_goals omega

end Reads

/-- Settles O39: each word is put together from fields that do not meet, so each reads back from its own place; the
reads give those words. -/
theorem statusAndHeadWordsHoldTheirFields : Obligations.StatusAndHeadWordsHoldTheirFields := by
  refine ⟨by decide, wordBytes_eq, ?record, fun e => ?heads, fun s x slot r offset hs hslot hx hoffset => ?reads⟩
  case record =>
    intro result len tries reissued cycle causes condition hlen htries hreissued
    obtain ⟨howner, hresult, hlength, htriesField, hcycle⟩ :=
      statusWord4_fields (result := result) (reissued := reissued) (cycle := cycle) rfl hlen htries
    obtain ⟨hcauses, hcondition, hlow, hhigh⟩ := statusWord5_fields (causes := causes) (condition := condition) rfl
    exact ⟨howner, hresult, hlength, htriesField, hcycle, hcauses, hcondition, hlow, hhigh,
      fun _ _ htries' hreissued' => triesField_injective htries hreissued htries' hreissued'⟩
  case heads =>
    obtain ⟨hkind, hcode, hreissued, hduplicate, hlate, hring, hstation, hindex, hhigh⟩ := head0_fields (e := e) rfl
    exact ⟨hkind, hcode, hreissued, hduplicate, hlate, hring, hstation, hindex, hhigh, head1_fields rfl⟩
  case reads =>
    have hshown : s.shownSlot = slot := by rw [hslot, shownSlot_eq]
    have hring : s.read offset = (s.ringUnit r).statusWord := by
      subst hoffset
      cases r <;> exact if_neg hs
    clear hslot hoffset
    subst hshown hx
    refine ⟨engineStatus_fields (if_neg hs), commandStatus_fields (if_neg hs), ?result, ?station, ?slot, ?maps,
      ?mapEnds, ringStatus_fields hring, ?queue, ?settings, ?cycle, ?exmem, ?selectors, ?rings, ?writeOnly,
      read_aligned s⟩
    case result =>
      have hread : s.read 0x58 = slotResultWord s.schedule.status[s.schedule.select] := if_neg hs
      refine ⟨fun hnone => ?_, fun y hy => slotResult_fields ?_⟩
      · rw [hread, hnone, slotResultWord]
      · rw [hread, hy]
    case station =>
      obtain ⟨hstate, hcounts, hgap⟩ := stationState_fields (w := s.read 0x60) (if_neg hs)
      obtain ⟨hident0, hident1⟩ := read_identity hs
      obtain ⟨hsticky, hstickyGap⟩ := stickySet_fields (w := s.read 0x70) (if_neg hs)
      refine ⟨hstate, hcounts, hgap, ?_, ?_, hsticky, hstickyGap, stationConfig_fields (if_neg hs)⟩
      · rw [hident0, hident1]
        exact identity_absent
      · rw [hident0, hident1]
        exact fun _ => identity_present
    case slot =>
      obtain ⟨hstation, hfunction, hrate, hphase, hreport, henable, hgap6, hgap12, hgap21, hgap30⟩ :=
        slotStation_fields (w := s.read 0x4C) (if_neg hs)
      obtain ⟨hout, houtLength, houtGap, houtHigh⟩ := slotArea_fields (w := s.read 0x50) (if_neg hs)
      obtain ⟨hin, hinCapacity, hinGap, hinHigh⟩ := slotArea_fields (w := s.read 0x54) (if_neg hs)
      exact ⟨hstation, hfunction, hrate, hphase, hreport, henable, hgap6, hgap12, hgap21, hgap30, hout, houtLength,
        hin, hinCapacity, houtGap, houtHigh, hinGap, hinHigh⟩
    case maps =>
      obtain ⟨hlow, hhigh⟩ := read_stickyMaps hs
      rw [hlow, hhigh]
      exact fun i => ⟨fun hi => stickyMap_station s (by decide) (by omega) hi (by omega),
        fun hi => stickyMap_station s (by decide) hi (by omega) (by omega)⟩
    case mapEnds =>
      obtain ⟨hlow, hhigh⟩ := read_stickyMaps hs
      rw [hlow, hhigh]
      exact ⟨stickyMap_unassigned s (by decide) (by decide) (by decide),
        stickyMap_unassigned s (by decide) (by decide) (by decide)⟩
    case queue =>
      obtain ⟨hhead0, hhead1⟩ := read_queueHeads hs
      rw [hhead0, hhead1]
      refine ⟨fun hempty => ?_, fun y rest hentries => ?_, queueStatus_fields (if_neg hs)⟩
      · simp [State.headWord, hempty]
      · simp [State.headWord, hentries]
    case settings =>
      refine ⟨toNat_of_eq_fieldAt (if_neg hs) (by omega), toNat_of_eq_fieldAt (if_neg hs) (by omega),
        toNat_of_eq_fieldAt (if_neg hs) (by omega), toNat_of_eq_fieldAt (if_neg hs) (by omega), fun hrange => ?_⟩
      have ⟨hperiod, hguard, hlimit, _, _, hthreshold⟩ := hrange
      exact ⟨toNat_of_eq_fieldAt (if_neg hs) (by omega), toNat_of_eq_fieldAt (if_neg hs) (by omega),
        toNat_of_eq_fieldAt (if_neg hs) (by omega), toNat_of_eq_fieldAt (if_neg hs) (by omega),
        rollcallConfig_fields (if_neg hs) hrange⟩
    case cycle =>
      exact ⟨toNat_of_eq_fieldAt (if_neg hs) (by omega), fun _ => toNat_of_eq_fieldAt (if_neg hs) (by omega),
        fun _ => toNat_of_eq_fieldAt (if_neg hs) (by omega)⟩
    case exmem =>
      have hread : s.read 0x44 = s.exmem.wordAt s.exmemAddr.toNat := if_neg hs
      intro haligned k hk
      rw [hread, wordAt_fields s.exmem (SchedulePages.aligned_room haligned) hk]
    case selectors =>
      obtain ⟨hselect, hview, hgap, hhigh⟩ := slotSelect_fields (w := s.read 0x48) (if_neg hs)
      exact ⟨if_neg hs, toNat_of_eq_fieldAt (if_neg hs) (by omega), hselect, hview, hgap, hhigh,
        toNat_of_eq_fieldAt (if_neg hs) (by omega)⟩
    case rings =>
      intro base length post hoffsets
      have ⟨hbase, hlength, hpost⟩ : s.read base = (s.ringUnit r).base
          ∧ s.read length = fieldAt 0 (s.ringUnit r).length ∧ s.read post = 0 := by
        cases r <;> cases hoffsets <;> exact ⟨if_neg hs, if_neg hs, if_neg hs⟩
      refine ⟨hbase, hpost, fun haligned => ?_, fun _ => toNat_of_eq_fieldAt hlength (by omega)⟩
      rw [hbase, StationTable.fieldOf_low]
      exact haligned
    case writeOnly =>
      exact ⟨if_neg hs, if_neg hs, if_neg hs, fun o => read_unmapped hs⟩

end Sys2Proof.Machine.RegisterWindow
end

section
namespace Sys2Proof.Machine.CommandQueue
open TheCycle

/-! ### The queue of waiting commands replaced (log entry 19)

Replacing the queue commutes with every operation, one lemma for each: it goes into the branches of the operation and
past the operations in them, and the tests of the branches agree by `rfl`, since none reads the queue. -/

/-- The state with the commands `q` waiting, and everything else as it is. -/
def feed (q : List Instr) (s : State) : State := { s with pending := q }

section Operations
variable (q : List Instr) (s : State)

/-! What the model asks of a state, it asks of no command waiting. -/

@[simp] theorem feed_fields :
    (feed q s).engine = s.engine ∧ (feed q s).line = s.line ∧ (feed q s).cycle = s.cycle ∧
      (feed q s).settings = s.settings ∧ (feed q s).context = s.context ∧ (feed q s).lateFrame = s.lateFrame ∧
      (feed q s).schedule = s.schedule ∧ (feed q s).requests = s.requests ∧ (feed q s).pending = q :=
  ⟨rfl, rfl, rfl, rfl, rfl, rfl, rfl, rfl, rfl⟩

@[simp] theorem feed_station (a : Address) : (feed q s).station a = s.station a := rfl

@[simp] theorem feed_ringUnit (r : Ring) : (feed q s).ringUnit r = s.ringUnit r := rfl

@[simp] theorem feed_recordVerdict (record : RingRecord) :
    (feed q s).recordVerdict record = s.recordVerdict record := rfl

@[simp] theorem feed_validate (page : Vector Slot 32) : (feed q s).validate page = s.validate page := rfl

@[simp] theorem feed_dueSlotFrom (start : Nat) : (feed q s).dueSlotFrom start = s.dueSlotFrom start := rfl

@[simp] theorem feed_slotVerdict (i : Fin 32) : (feed q s).slotVerdict i = s.slotVerdict i := rfl

@[simp] theorem feed_rollTarget : (feed q s).rollTarget = s.rollTarget := rfl

@[simp] theorem feed_receiving? : (feed q s).receiving? = s.receiving? := rfl

@[simp] theorem feed_waitLeft? : (feed q s).waitLeft? = s.waitLeft? := rfl

@[simp] theorem feed_windowLeft? : (feed q s).windowLeft? = s.windowLeft? := rfl

/-! ### The flags, the Station Table and the completion queue -/

theorem feed_clampedIf (b : Bool) : feed q (s.clampedIf b) = (feed q s).clampedIf b :=
  apply_ite (feed q) ..

theorem feed_setStation (a : Address) (r : Station) : feed q (s.setStation a r) = (feed q s).setStation a r := by
  unfold State.setStation
  split <;> rfl

theorem feed_post (e : Entry) : feed q (s.post e) = (feed q s).post e := by
  simp only [State.post, apply_ite (feed q)]
  rfl

theorem feed_postStation (a : Address) (code : BitVec 5) (b : Bool) :
    feed q (s.postStation a code b) = (feed q s).postStation a code b :=
  feed_post ..

theorem feed_enterLost (a : Address) : feed q (s.enterLost a) = (feed q s).enterLost a := by
  simp only [State.enterLost, feed_postStation, feed_setStation]
  rfl

theorem feed_supervise (a : Address) (b : Bool) : feed q (s.supervise a b) = (feed q s).supervise a b := by
  simp only [State.supervise, apply_ite (feed q), feed_setStation, feed_enterLost]
  rfl

theorem feed_addSticky (a : Address) (k : KindSet) : feed q (s.addSticky a k) = (feed q s).addSticky a k :=
  feed_setStation ..

theorem feed_raise (f : IntFlag) : feed q (s.raise f) = (feed q s).raise f := rfl

theorem feed_alert (e : Entry) : feed q (s.alert e) = (feed q s).alert e := by
  simp only [State.alert, apply_ite (feed q), feed_addSticky, feed_raise, feed_post]
  rfl

theorem feed_account (a : Address) (k : KindSet) (e : Entry) :
    feed q (s.account a k e) = (feed q s).account a k e := by
  simp only [State.account, apply_ite (feed q), feed_addSticky, feed_alert]
  rfl

/-! ### The Schedule Store, the Cycle Unit and the engine -/

theorem feed_slotResult (i : Fin 32) (result : Result) (k : KindSet) (p : List Byte) :
    feed q (s.slotResult i result k p) = (feed q s).slotResult i result k p := by
  by_cases hok : result = .ok
  · simp only [State.slotResult, if_pos hok, apply_ite (feed q), feed_post]
    rfl
  · simp only [State.slotResult, if_neg hok, apply_ite (feed q), feed_post]
    rfl

theorem feed_applySwap : feed q s.applySwap = (feed q s).applySwap := feed_post ..

theorem feed_applyPendingSwap : feed q s.applyPendingSwap = (feed q s).applyPendingSwap := by
  simp only [State.applyPendingSwap, apply_ite (feed q), feed_applySwap]
  rfl

theorem feed_selectionPoint : feed q s.selectionPoint = (feed q s).selectionPoint := apply_ite (feed q) ..

theorem feed_walkFrom (start : Nat) : feed q (s.walkFrom start) = (feed q s).walkFrom start := by
  simp only [State.walkFrom, feed_dueSlotFrom]
  split <;> rfl

theorem feed_dropCycleWork : feed q s.dropCycleWork = (feed q s).dropCycleWork := rfl

theorem feed_enterHalted : feed q s.enterHalted = (feed q s).enterHalted := by
  simp only [State.enterHalted, feed_raise, feed_applyPendingSwap]
  rfl

theorem feed_cutByEngine : feed q s.cutByEngine = (feed q s).cutByEngine := by
  simp only [State.cutByEngine, feed_fields]
  split
  · rfl
  · split <;> rfl

theorem feed_setDecision (code arg : Byte) (d : Decision) (k : BitVec 4) (i : Byte) :
    feed q (s.setDecision code arg d k i) = (feed q s).setDecision code arg d k i := rfl

theorem feed_elapse (k : Nat) : feed q (s.elapse k) = (feed q s).elapse k := apply_ite (feed q) ..

/-! ### The rings and the Memory Master -/

theorem feed_setRing (r : Ring) (x : RingUnit) : feed q (s.setRing r x) = (feed q s).setRing r x := by
  cases r <;> rfl

theorem feed_serve : feed q s.serve = (feed q s).serve := by
  simp only [State.serve, feed_fields]
  split
  · rfl
  · exact apply_ite (feed q) ..

theorem feed_issue (p : Request) : feed q (s.issue p) = (feed q s).issue p := feed_serve ..

theorem feed_tryFetch (r : Ring) : feed q (s.tryFetch r) = (feed q s).tryFetch r := by
  simp only [State.tryFetch, apply_ite (feed q), feed_issue, feed_setRing]
  rfl

theorem feed_issueReply (r : Ring) (record : RingRecord) (reply : Option Reply) :
    feed q (s.issueReply r record reply) = (feed q s).issueReply r record reply := by
  cases reply with
  | none => rfl
  | some p => simp only [State.issueReply, apply_ite (feed q), feed_issue]

theorem feed_completeRecord (r : Ring) (record : RingRecord) (result : Result) (reply : Option Reply) :
    feed q (s.completeRecord r record result reply) = (feed q s).completeRecord r record result reply := by
  simp only [State.completeRecord, feed_issue, feed_issueReply, feed_setRing]
  rfl

theorem feed_stageRecord (r : Ring) (record : RingRecord) :
    feed q (s.stageRecord r record) = (feed q s).stageRecord r record := by
  simp only [State.stageRecord, feed_recordVerdict]
  split
  · exact feed_completeRecord ..
  · simp only [apply_ite (feed q), feed_selectionPoint, feed_setRing, State.setRing_frame]
    rfl

theorem feed_haltRing (r : Ring) (reason : HaltReason) (i : Byte) (failed : Option RingRecord) :
    feed q (s.haltRing r reason i failed) = (feed q s).haltRing r reason i failed := by
  simp only [State.haltRing, feed_post, feed_raise, feed_setRing, State.raise_frame, State.setRing_frame]
  rfl

theorem feed_takeRecord (r : Ring) (w0 w1 w2 w3 : Word) :
    feed q (s.takeRecord r w0 w1 w2 w3) = (feed q s).takeRecord r w0 w1 w2 w3 := by
  simp only [State.takeRecord, apply_ite (feed q), feed_completeRecord, feed_stageRecord, feed_issue, feed_setRing,
    feed_ringUnit]
  cases r <;> rfl

theorem feed_recordReadDone (p : Request) (ok : Bool) :
    feed q (s.recordReadDone p ok) = (feed q s).recordReadDone p ok := by
  simp only [State.recordReadDone, apply_ite (feed q), feed_haltRing, feed_takeRecord]

theorem feed_dataReadDone (p : Request) (ok : Bool) :
    feed q (s.dataReadDone p ok) = (feed q s).dataReadDone p ok := by
  simp only [State.dataReadDone, feed_ringUnit]
  split
  · rfl
  · simp only [apply_ite (feed q), feed_stageRecord, feed_completeRecord]

theorem feed_dataWriteDone (p : Request) (ok : Bool) :
    feed q (s.dataWriteDone p ok) = (feed q s).dataWriteDone p ok := by
  simp only [State.dataWriteDone, feed_ringUnit]
  split
  · rfl
  · simp only [apply_ite (feed q), feed_setRing]

theorem feed_statusWriteDone (p : Request) (ok : Bool) :
    feed q (s.statusWriteDone p ok) = (feed q s).statusWriteDone p ok := by
  simp only [State.statusWriteDone, feed_ringUnit]
  split
  · rfl
  · split
    · split
      · exact feed_setRing ..
      · simp only [apply_ite (feed q), feed_post, feed_setRing]
    · exact feed_haltRing ..

theorem feed_fetchAfter (p : Request) : feed q (s.fetchAfter p) = (feed q s).fetchAfter p := by
  simp only [State.fetchAfter, apply_ite (feed q), feed_tryFetch]
  rfl

theorem feed_takeOutcome (p : Request) (ok : Bool) :
    feed q (s.takeOutcome p ok) = (feed q s).takeOutcome p ok := by
  unfold State.takeOutcome
  split
  · exact feed_recordReadDone ..
  · exact feed_dataReadDone ..
  · exact feed_dataWriteDone ..
  · exact feed_statusWriteDone ..

theorem feed_finishRequest (p : Request) (rest : List Request) (ok : Bool) :
    feed q (s.finishRequest p rest ok) = (feed q s).finishRequest p rest ok := by
  simp only [State.finishRequest, apply_ite (feed q), feed_serve, feed_fetchAfter, feed_tryFetch, feed_takeOutcome]
  rfl

theorem feed_transferAnswered (success : Bool) (word : Word) :
    feed q (s.transferAnswered success word) = (feed q s).transferAnswered success word := by
  simp only [State.transferAnswered, feed_fields]
  split
  · rfl
  · simp only [apply_ite (feed q), feed_finishRequest]
    rfl

/-! ### Tries and the end of an exchange -/

theorem feed_transmit (user : TxUser) (frame : List Byte) :
    feed q (s.transmit user frame) = (feed q s).transmit user frame := rfl

/-- The tag that a try takes, and the exchange with it, are the same with other commands waiting. -/
theorem feed_takeTag (e : Exchange) : Prod.map (feed q) id (s.takeTag e) = (feed q s).takeTag e := by
  simp only [State.takeTag, apply_ite (Prod.map (feed q) id), Prod.map_apply, feed_setStation]
  rfl

theorem feed_beginTry (e : Exchange) : feed q (s.beginTry e) = (feed q s).beginTry e := by
  simp only [State.beginTry, ← feed_takeTag, feed_transmit]
  rfl

theorem feed_accountExchange (e : Exchange) :
    feed q (s.accountExchange e) = (feed q s).accountExchange e := by
  unfold State.accountExchange
  split
  · rfl
  · split
    · exact feed_account ..
    · exact feed_account ..
    · rfl

theorem feed_superviseExchange (e : Exchange) :
    feed q (s.superviseExchange e) = (feed q s).superviseExchange e := by
  simp only [State.superviseExchange, apply_ite (feed q), feed_supervise]

theorem feed_sourceTakes (e : Exchange) (result : Result) (reply : Option Reply) :
    feed q (s.sourceTakes e result reply) = (feed q s).sourceTakes e result reply := by
  simp only [State.sourceTakes, feed_ringUnit, feed_fields]
  split
  · exact feed_slotResult ..
  · split
    · rfl
    · split
      · rfl
      · exact feed_completeRecord ..
  · rfl

theorem feed_emptyContext (source : Source) : feed q (s.emptyContext source) = (feed q s).emptyContext source := by
  simp only [State.emptyContext, feed_fields]
  split
  · exact feed_enterHalted ..
  · split
    · simp only [apply_ite (feed q), feed_walkFrom]
      rfl
    · exact feed_selectionPoint ..
    · exact feed_selectionPoint ..
  all_goals rfl

theorem feed_endExchange (e : Exchange) (result : Result) (reply : Option Reply) :
    feed q (s.endExchange e result reply) = (feed q s).endExchange e result reply := by
  simp only [State.endExchange, feed_emptyContext, feed_sourceTakes, feed_accountExchange, feed_superviseExchange]

theorem feed_returnToStaging (e : Exchange) :
    feed q (s.returnToStaging e) = (feed q s).returnToStaging e := by
  simp only [State.returnToStaging, feed_emptyContext, ← feed_superviseExchange, ← feed_accountExchange,
    feed_ringUnit]
  congr 1
  split
  · split
    · rfl
    · exact feed_setRing ..
  · rfl
  · rfl

theorem feed_interrupt (result : Result) : feed q (s.interrupt result) = (feed q s).interrupt result := by
  simp only [State.interrupt, feed_fields]
  split
  · rfl
  · rw [← feed_accountExchange, ← feed_sourceTakes]
    rfl

theorem feed_concludeTry (e : Exchange) (outcome : TryOutcome) (reply : Option Reply) :
    feed q (s.concludeTry e outcome reply) = (feed q s).concludeTry e outcome reply := by
  simp only [State.concludeTry, apply_ite (feed q), feed_returnToStaging, feed_endExchange]
  rfl

theorem feed_endRollCall (e : Exchange) : feed q (s.endRollCall e) = (feed q s).endRollCall e :=
  feed_emptyContext ..

theorem feed_takeExpiry (e : Exchange) : feed q (s.takeExpiry e) = (feed q s).takeExpiry e := by
  simp only [State.takeExpiry, apply_ite (feed q), feed_endRollCall, feed_concludeTry]
  rfl

/-! ### Roll calls and the receiver -/

theorem feed_join (a : Address) (id : Identity) : feed q (s.join a id) = (feed q s).join a id := by
  simp only [State.join, feed_postStation, feed_station, ← feed_setStation]
  rfl

theorem feed_rejoin (a : Address) (id : Identity) : feed q (s.rejoin a id) = (feed q s).rejoin a id := by
  simp only [State.rejoin, feed_postStation, feed_setStation]
  rfl

theorem feed_takeIdentity (a : Address) (id : Identity) :
    feed q (s.takeIdentity a id) = (feed q s).takeIdentity a id := by
  simp only [State.takeIdentity, feed_station]
  split
  · exact feed_join ..
  · simp only [apply_ite (feed q), feed_join, feed_rejoin]
    rfl
  all_goals rfl

theorem feed_takeRollReply (e : Exchange) (f : FrameReport) :
    feed q (s.takeRollReply e f) = (feed q s).takeRollReply e f := by
  simp only [State.takeRollReply, apply_ite (feed q), feed_takeIdentity, feed_postStation]

theorem feed_syncArrival : feed q s.syncArrival = (feed q s).syncArrival := by
  simp only [State.syncArrival, feed_fields]
  split
  · exact apply_ite (feed q) ..
  · rfl

theorem feed_frameAbandoned : feed q s.frameAbandoned = (feed q s).frameAbandoned := by
  simp only [State.frameAbandoned, feed_receiving?]
  split
  · simp only [apply_ite (feed q), feed_endRollCall, feed_postStation, feed_concludeTry]
  · rfl

theorem feed_accountLate (a : Address) : feed q (s.accountLate a) = (feed q s).accountLate a := feed_account ..

theorem feed_frameEnd (f : FrameReport) : feed q (s.frameEnd f) = (feed q s).frameEnd f := by
  simp only [State.frameEnd, feed_receiving?, feed_fields]
  split
  · simp only [apply_ite (feed q), feed_endRollCall, feed_takeRollReply, feed_concludeTry]
  · split
    · simp only [apply_ite (feed q), feed_accountLate]
      rfl
    · rfl

theorem feed_setReceiver (rx : Receiver) : feed q (s.setReceiver rx) = (feed q s).setReceiver rx := rfl

theorem feed_abandonFrame : feed q s.abandonFrame = (feed q s).abandonFrame := feed_frameAbandoned ..

theorem feed_takeFrameByte (b : Byte) : feed q (s.takeFrameByte b) = (feed q s).takeFrameByte b := by
  simp only [State.takeFrameByte, apply_ite (feed q), feed_frameEnd, feed_abandonFrame, feed_setReceiver]
  rfl

theorem feed_takeHeldExpiry : feed q s.takeHeldExpiry = (feed q s).takeHeldExpiry := by
  simp only [State.takeHeldExpiry, feed_fields]
  split
  · simp only [apply_ite (feed q), feed_takeExpiry]
  · rfl

theorem feed_receiveCell (cell : Cell) : feed q (s.receiveCell cell) = (feed q s).receiveCell cell := by
  simp only [State.receiveCell, feed_fields]
  split
  · rfl
  · split
    · simp only [apply_ite (feed q), feed_syncArrival, feed_takeHeldExpiry, feed_setReceiver]
    · exact feed_takeHeldExpiry ..
    · exact feed_takeFrameByte ..
    · exact feed_abandonFrame ..
    · exact feed_takeHeldExpiry ..

theorem feed_enterLineFault (code : BitVec 5) : feed q (s.enterLineFault code) = (feed q s).enterLineFault code := by
  simp only [State.enterLineFault, ← feed_interrupt, ← feed_dropCycleWork]
  rw [feed_raise, feed_post]
  rfl

/-! ### The operations of the line's and the cycle's events -/

theorem feed_startBit : feed q s.startBit = (feed q s).startBit := apply_ite (feed q) ..

theorem feed_endCell (cell : Cell) : feed q (s.endCell cell) = (feed q s).endCell cell := rfl

theorem feed_cellArrives (cell : Cell) : feed q (s.cellArrives cell) = (feed q s).cellArrives cell := by
  have hstarted : (if (feed q s).line.cell.isNone then (feed q s).startBit else feed q s)
      = feed q (if s.line.cell.isNone then s.startBit else s) := by
    simp only [apply_ite (feed q), feed_startBit, feed_fields]
  simp only [State.cellArrives, hstarted]
  generalize (if s.line.cell.isNone then s.startBit else s) = u
  simp only [feed_fields]
  split
  · rfl
  · simp only [feed_receiveCell, feed_endCell, feed_elapse]

theorem feed_becomeQuiet : feed q s.becomeQuiet = (feed q s).becomeQuiet := rfl

theorem feed_cutByEcho : feed q s.cutByEcho = (feed q s).cutByEcho := rfl

theorem feed_txDone : feed q s.txDone = (feed q s).txDone := rfl

theorem feed_markCut : feed q s.markCut = (feed q s).markCut := by
  simp only [State.markCut, apply_ite (feed q), feed_enterLineFault, feed_fields]
  congr 1
  split
  · rfl
  · exact feed_enterHalted ..
  all_goals rfl

theorem feed_tryCut : feed q s.tryCut = (feed q s).tryCut := by
  simp only [State.tryCut, feed_fields]
  split
  · simp only [apply_ite (feed q), feed_enterLineFault]
  · simp only [apply_ite (feed q), feed_enterLineFault, feed_endRollCall, feed_concludeTry]
    rfl

theorem feed_markComplete : feed q s.markComplete = (feed q s).markComplete := by
  simp only [State.markComplete, feed_fields]
  split
  · exact feed_walkFrom ..
  · exact feed_enterHalted ..
  all_goals rfl

theorem feed_tryComplete : feed q s.tryComplete = (feed q s).tryComplete := by
  simp only [State.tryComplete, feed_fields]
  split
  · rfl
  · simp only [apply_ite (feed q), feed_endExchange]
    rfl

theorem feed_closeWalk : feed q s.closeWalk = (feed q s).closeWalk := by
  simp only [State.closeWalk, feed_fields]
  split
  · rw [List.foldl_hom (feed q)]
    · rfl
    · intro t i
      simp only [apply_ite (feed q), feed_slotResult]
  · rfl

theorem feed_beginMark (want : MarkWant) : feed q (s.beginMark want) = (feed q s).beginMark want := by
  simp only [State.beginMark, apply_ite (feed q), feed_raise, feed_transmit, ← feed_applyPendingSwap]
  rfl

theorem feed_runSlot (i : Fin 32) : feed q (s.runSlot i) = (feed q s).runSlot i := by
  simp only [State.runSlot, feed_slotVerdict]
  split
  · simp only [feed_walkFrom, feed_slotResult]
  · exact feed_beginTry ..

theorem feed_beginRecord (r : Ring) (record : RingRecord) :
    feed q (s.beginRecord r record) = (feed q s).beginRecord r record := by
  simp only [State.beginRecord, feed_beginTry, feed_setRing, feed_ringUnit]

theorem feed_offer (r : Ring) : Prod.map (feed q) id (s.offer r) = (feed q s).offer r := by
  simp only [State.offer, feed_ringUnit]
  split
  · simp only [feed_recordVerdict]
    split
    · simp only [Prod.map_apply, feed_completeRecord, id]
    · simp only [apply_ite (Prod.map (feed q) id), Prod.map_apply, feed_beginRecord]
      rfl
  · rfl

theorem feed_considerRollCall : feed q s.considerRollCall = (feed q s).considerRollCall := by
  simp only [State.considerRollCall, apply_ite (feed q), feed_rollTarget]
  congr 2
  split
  · rfl
  · exact feed_beginTry ..

theorem feed_offerBoth (first : Ring) : feed q (s.offerBoth first) = (feed q s).offerBoth first := by
  simp only [State.offerBoth, ← feed_offer, Prod.map_fst]

/-- A selection's offers, both at one moment or ring U's first, and the roll call where neither is chosen (R34, R35). -/
theorem select_eq : s.select =
    if (selectionMade s s.orderIndex).offerCompletes .u && (selectionMade s s.orderIndex).offerCompletes .n then
      ((selectionMade s (s.orderIndex + 1)).offerBoth s.issuesFirst).considerRollCall
    else if ((selectionMade s s.orderIndex).offer .u).2 then ((selectionMade s s.orderIndex).offer .u).1
    else if (((selectionMade s s.orderIndex).offer .u).1.offer .n).2 then
      (((selectionMade s s.orderIndex).offer .u).1.offer .n).1
    else (((selectionMade s s.orderIndex).offer .u).1.offer .n).1.considerRollCall := rfl

theorem feed_select : feed q s.select = (feed q s).select := by
  have hmade (order : Nat) : selectionMade (feed q s) order = feed q (selectionMade s order) := rfl
  simp only [select_eq, hmade, ← feed_offer, Prod.map_fst, Prod.map_snd, apply_ite (feed q), feed_considerRollCall,
    feed_offerBoth]
  rfl

theorem feed_orphan (r : Ring) : feed q (s.orphan r) = (feed q s).orphan r := by
  simp only [State.orphan, feed_fields]
  split
  · rfl
  · split
    · rfl
    · rfl
    · simp only [apply_ite (feed q), feed_endExchange]
      rfl

/-! ### The operations of the host's accesses -/

theorem feed_start (arg : Byte) : feed q (s.start arg) = (feed q s).start arg := by
  simp only [State.start, apply_ite (feed q), feed_validate, feed_fields]
  congr 2
  split <;> rfl

theorem feed_leaveLineFault : feed q s.leaveLineFault = (feed q s).leaveLineFault := by
  simp only [State.leaveLineFault, ← feed_enterHalted]
  rfl

theorem feed_stop (arg : Byte) : feed q (s.stop arg) = (feed q s).stop arg := by
  simp only [State.stop, feed_fields, State.done, State.accepted]
  split
  · simp only [apply_ite (feed q), feed_setDecision, feed_enterHalted]
    rfl
  · simp only [feed_setDecision, feed_enterHalted]
  · simp only [feed_setDecision, feed_leaveLineFault]
  all_goals rfl

theorem feed_abort (arg : Byte) : feed q (s.abort arg) = (feed q s).abort arg := by
  have hinterrupted : feed q (s.cutByEngine.interrupt .aborted) = (feed q s).cutByEngine.interrupt .aborted := by
    rw [feed_interrupt, feed_cutByEngine]
  simp only [State.abort, feed_fields, State.done]
  split
  case h_4 => rw [feed_setDecision, feed_leaveLineFault, hinterrupted]
  case h_5 | h_6 => rfl
  all_goals rw [feed_setDecision, feed_enterHalted, hinterrupted]

theorem feed_softReset (arg : Byte) : feed q (s.softReset arg) = (feed q s).softReset arg := by
  simp only [State.softReset, ← feed_cutByEngine]
  rfl

theorem feed_swap (arg : Byte) : feed q (s.swap arg) = (feed q s).swap arg := by
  simp only [State.swap, apply_ite (feed q), feed_validate, feed_fields]
  congr 1
  split
  · rfl
  · simp only [apply_ite (feed q), State.done, feed_setDecision, feed_applySwap]
    rfl

theorem feed_stationCommand (code arg : Byte) (accepts : StationState → Bool) (act : Station → Station) :
    feed q (s.stationCommand code arg accepts act) = (feed q s).stationCommand code arg accepts act := by
  simp only [State.stationCommand, apply_ite (feed q), State.done, feed_setDecision, feed_setStation]
  rfl

theorem feed_loseAtLimit : feed q s.loseAtLimit = (feed q s).loseAtLimit := by
  refine (List.foldl_hom (feed q) fun t i => ?_).symm
  simp only [apply_ite (feed q), feed_enterLost]
  rfl

theorem feed_ringCommand (code arg : Byte) {effect effect' : Ring → State}
    (h : ∀ r, feed q (effect r) = effect' r) :
    feed q (s.ringCommand code arg effect) = (feed q s).ringCommand code arg effect' := by
  unfold State.ringCommand
  split
  · rfl
  · exact h _

theorem feed_enableRing (arg : Byte) (r : Ring) : feed q (s.enableRing arg r) = (feed q s).enableRing arg r := by
  simp only [State.enableRing, apply_ite (feed q), State.done, feed_setDecision, feed_tryFetch, feed_setRing]
  rfl

theorem feed_resumeRing (arg : Byte) (r : Ring) : feed q (s.resumeRing arg r) = (feed q s).resumeRing arg r := by
  simp only [State.resumeRing, apply_ite (feed q), State.done, feed_setDecision, feed_tryFetch, feed_setRing]
  rfl

theorem feed_resetRing (r : Ring) : feed q (s.resetRing r) = (feed q s).resetRing r := by
  simp only [State.resetRing, feed_orphan, ← feed_setRing, feed_ringUnit]
  rfl

theorem feed_postRecords (r : Ring) (n : Nat) : feed q (s.postRecords r n) = (feed q s).postRecords r n := by
  simp only [State.postRecords, apply_ite (feed q), feed_tryFetch, feed_setRing]
  rfl

theorem feed_ringConfigWrite (r : Ring) (change : RingUnit → RingUnit) :
    feed q (s.ringConfigWrite r change) = (feed q s).ringConfigWrite r change := by
  simp only [State.ringConfigWrite, apply_ite (feed q), feed_setRing]
  rfl

theorem feed_haltedWrite {effect : State → State} (h : feed q (effect s) = effect (feed q s)) :
    feed q (s.haltedWrite effect) = (feed q s).haltedWrite effect := by
  simp only [State.haltedWrite, apply_ite (feed q), h]
  rfl

end Operations

/-! ### What a command answers, with other commands waiting -/

/-- An answer with the commands `q` waiting in its next state. -/
def feedAnswer (q : List Instr) : Answer → Answer
  | .next t => .next (feed q t)
  | .fault r => .fault r
  | .refused r => .refused r

theorem feedAnswer_next (q : List Instr) (t : State) : feedAnswer q (.next t) = .next (feed q t) := rfl

/-- A command's meaning answers the same with other commands waiting, but for the queue in its next state. -/
def QueueBlind (meaning : State → Answer) : Prop := ∀ q s, feedAnswer q (meaning s) = meaning (feed q s)

theorem queueBlind_next {effect : State → State} (h : ∀ q s, feed q (effect s) = effect (feed q s)) :
    QueueBlind fun s => .next (effect s) :=
  fun q s => congrArg Host.Outcome.next (h q s)

theorem queueBlind_access {effect : State → State} (h : ∀ q s, feed q (effect s) = effect (feed q s)) :
    QueueBlind fun s => s.hostAccess effect := fun q s => by
  simp only [State.hostAccess, apply_ite (feedAnswer q), feedAnswer_next, h]
  rfl

/-! The events of the line (R2, R10, R11, R17, R19). -/

theorem cellArrival_queueBlind (cell : Cell) : QueueBlind (execCellArrival cell) := fun q s => by
  simp only [execCellArrival, apply_ite (feedAnswer q), feedAnswer_next, feed_cellArrives]
  rfl

theorem gapLimitExpiry_queueBlind : QueueBlind execGapLimitExpiry := fun q s => by
  simp only [execGapLimitExpiry, apply_ite (feedAnswer q), feedAnswer_next, feed_abandonFrame, feed_elapse]
  rfl

theorem lineQuiet_queueBlind : QueueBlind execLineQuiet := fun q s => by
  simp only [execLineQuiet, apply_ite (feedAnswer q), feedAnswer_next, feed_becomeQuiet, feed_elapse]
  rfl

theorem echoMismatch_queueBlind : QueueBlind execEchoMismatch := fun q s => by
  simp only [execEchoMismatch, feed_fields]
  split
  · rfl
  · split
    · rw [feedAnswer_next, feed_markCut, feed_cutByEcho]
    · rw [feedAnswer_next, feed_tryCut, feed_cutByEcho]

theorem transmissionComplete_queueBlind : QueueBlind execTransmissionComplete := fun q s => by
  simp only [execTransmissionComplete, feed_fields]
  split
  · rfl
  · split
    · rw [feedAnswer_next, feed_markComplete, feed_txDone, feed_elapse]
    · rw [feedAnswer_next, feed_tryComplete, feed_txDone, feed_elapse]

/-! The events of the cycle (R23, R24, R27, R31, R33). -/

theorem markDue_queueBlind : QueueBlind execMarkDue := fun q s => by
  simp only [execMarkDue, apply_ite (feedAnswer q), feedAnswer_next, feed_closeWalk, ← feed_elapse]
  rfl

theorem markBegin_queueBlind : QueueBlind execMarkBegin := fun q s => by
  simp only [execMarkBegin, feed_fields]
  split
  · rfl
  · simp only [apply_ite (feedAnswer q), feedAnswer_next, feed_beginMark]
    rfl

theorem quietWaitLimit_queueBlind : QueueBlind execQuietWaitLimit := fun q s => by
  simp only [execQuietWaitLimit, feed_waitLeft?]
  split
  · rfl
  · rw [feedAnswer_next, feed_enterLineFault, feed_elapse]

theorem slotOpportunity_queueBlind : QueueBlind execSlotOpportunity := fun q s => by
  simp only [execSlotOpportunity, feed_fields]
  split
  · rfl
  · simp only [apply_ite (feedAnswer q), feed_dueSlotFrom]
    congr 1
    split
    · rw [feedAnswer_next, feed_runSlot]
    · rw [feedAnswer_next, feed_walkFrom]

theorem owedSelection_queueBlind : QueueBlind execOwedSelection := fun q s => by
  simp only [execOwedSelection, apply_ite (feedAnswer q), feedAnswer_next, feed_select]
  rfl

/-! The events of the context, and INIT (R42, R53, R176). -/

theorem windowExpiry_queueBlind : QueueBlind execWindowExpiry := fun q s => by
  simp only [execWindowExpiry, feed_windowLeft?, ← feed_elapse, feed_fields]
  split
  · rfl
  · split
    · rfl
    · rw [feedAnswer_next, feed_takeExpiry]

theorem retryOpportunity_queueBlind : QueueBlind execRetryOpportunity := fun q s => by
  simp only [execRetryOpportunity, feed_fields]
  split
  · rfl
  · simp only [apply_ite (feedAnswer q), feedAnswer_next, feed_beginTry, feed_returnToStaging]
    rfl

theorem resetReleased_queueBlind : QueueBlind execResetReleased := fun q _ => apply_ite (feedAnswer q) ..

theorem initClearingFinished_queueBlind : QueueBlind execInitClearingFinished := fun q _ =>
  apply_ite (feedAnswer q) ..

/-! The host's commands with cases of their own (R84, R93, R108, R117). -/

theorem clearSticky_queueBlind (arg : Byte) : QueueBlind (execClearSticky arg) :=
  queueBlind_access fun q s => by
    simp only [apply_ite (feed q), feed_stationCommand]
    rfl

theorem ringReset_queueBlind (arg : Byte) : QueueBlind (execRingReset arg) :=
  queueBlind_access fun q s => feed_ringCommand q s 12 arg fun r => by
    rw [State.done, feed_setDecision, feed_resetRing, State.done]

theorem ringStatusWrite_queueBlind (r : Ring) (data : Word) : QueueBlind (execRingStatusWrite r data) :=
  queueBlind_access fun q s => by simp only [apply_ite (feed q), feed_setRing, feed_ringUnit]

theorem missLimitWrite_queueBlind (data : Word) : QueueBlind (execMissLimitWrite data) :=
  queueBlind_access fun q s => by
    simp only [feed_loseAtLimit, feed_clampedIf]
    rfl

theorem slotRegisterWrite_queueBlind (register : SlotRegister) (data : Word) :
    QueueBlind (execSlotRegisterWrite register data) :=
  queueBlind_access fun q s => by
    simp only [apply_ite (feed q), feed_clampedIf]
    rfl

theorem stationConfigWrite_queueBlind (data : Word) : QueueBlind (execStationConfigWrite data) :=
  queueBlind_access fun q s => by
    simp only [feed_clampedIf, feed_setStation]
    rfl

theorem exmemDataRead_queueBlind : QueueBlind execExmemDataRead := fun q _ => apply_ite (feedAnswer q) ..

/-! The three constructors whose operands the row bounds (log entry 16). -/

theorem commandCodeUnknown_queueBlind (code arg : Byte) : QueueBlind (execCommandCodeUnknown code arg) := fun q s => by
  unfold execCommandCodeUnknown
  split
  · rfl
  · exact queueBlind_access (fun _ _ => rfl) q s

theorem narrowWrite_queueBlind (offset : Byte) (enables : BitVec 4) (data : Word) :
    QueueBlind (execNarrowWrite offset enables data) := fun q s => by
  unfold execNarrowWrite
  split
  · exact queueBlind_access (fun _ _ => rfl) q s
  · rfl

theorem ignoredRegisterWrite_queueBlind (offset : Byte) (data : Word) :
    QueueBlind (execIgnoredRegisterWrite offset data) := fun q _ => apply_ite (feedAnswer q) ..

/-- Every command answers the same with other commands waiting, but for the queue in its next state. -/
theorem exec_queueBlind (c : Instr) : QueueBlind (exec c) := by
  cases c with
  | hardwareReset => exact fun _ _ => rfl
  | resetReleased => exact resetReleased_queueBlind
  | initClearingFinished => exact initClearingFinished_queueBlind
  | startBit => exact queueBlind_next feed_startBit
  | cellArrival cell => exact cellArrival_queueBlind cell
  | gapLimitExpiry => exact gapLimitExpiry_queueBlind
  | lineQuiet => exact lineQuiet_queueBlind
  | echoMismatch => exact echoMismatch_queueBlind
  | transmissionComplete => exact transmissionComplete_queueBlind
  | markDue => exact markDue_queueBlind
  | markBegin => exact markBegin_queueBlind
  | quietWaitLimit => exact quietWaitLimit_queueBlind
  | slotOpportunity => exact slotOpportunity_queueBlind
  | owedSelection => exact owedSelection_queueBlind
  | windowExpiry => exact windowExpiry_queueBlind
  | retryOpportunity => exact retryOpportunity_queueBlind
  | memoryTransferAnswer success word =>
    exact queueBlind_next fun q s => feed_transferAnswered q s success word
  | start arg => exact queueBlind_access fun q s => feed_start q s arg
  | stop arg => exact queueBlind_access fun q s => feed_stop q s arg
  | abort arg => exact queueBlind_access fun q s => feed_abort q s arg
  | softReset arg => exact queueBlind_access fun q s => feed_softReset q s arg
  | swap arg => exact queueBlind_access fun q s => feed_swap q s arg
  | queueClear arg => exact queueBlind_access fun _ _ => rfl
  | admitStation arg => exact queueBlind_access fun q s => feed_stationCommand q s 6 arg _ _
  | bar arg => exact queueBlind_access fun q s => feed_stationCommand q s 7 arg _ _
  | forget arg => exact queueBlind_access fun q s => feed_stationCommand q s 8 arg _ _
  | clearSticky arg => exact clearSticky_queueBlind arg
  | ringEnable arg =>
    exact queueBlind_access fun q s => feed_ringCommand q s 10 arg (feed_enableRing q s arg)
  | ringResume arg =>
    exact queueBlind_access fun q s => feed_ringCommand q s 11 arg (feed_resumeRing q s arg)
  | ringReset arg => exact ringReset_queueBlind arg
  | post r data => exact queueBlind_access fun q s => feed_postRecords q s r _
  | ringStatusWrite r data => exact ringStatusWrite_queueBlind r data
  | baseWrite r data => exact queueBlind_access fun q s => feed_ringConfigWrite q s r _
  | lengthWrite r data => exact queueBlind_access fun q s => feed_ringConfigWrite q s r _
  | queuePop data => exact queueBlind_access fun _ _ => rfl
  | intPendingWrite data => exact queueBlind_access fun _ _ => rfl
  | intEnableWrite data => exact queueBlind_access fun _ _ => rfl
  | windowStatusWrite data => exact queueBlind_access fun _ _ => rfl
  | lineConfigWrite data =>
    exact queueBlind_access fun q s => feed_haltedWrite q s (feed_clampedIf ..)
  | cyclePeriodWrite data =>
    exact queueBlind_access fun q s => feed_haltedWrite q s (feed_clampedIf ..)
  | guardWrite data => exact queueBlind_access fun q s => feed_clampedIf ..
  | missLimitWrite data => exact missLimitWrite_queueBlind data
  | rollcallConfigWrite data => exact queueBlind_access fun q s => feed_clampedIf ..
  | notifyThresholdWrite data => exact queueBlind_access fun q s => feed_clampedIf ..
  | holdMaskWrite data => exact queueBlind_access fun _ _ => rfl
  | slotSelectWrite data => exact queueBlind_access fun _ _ => rfl
  | slotRegisterWrite register data => exact slotRegisterWrite_queueBlind register data
  | stationSelectWrite data => exact queueBlind_access fun q s => feed_clampedIf ..
  | stationConfigWrite data => exact stationConfigWrite_queueBlind data
  | exmemAddrWrite data => exact queueBlind_access fun _ _ => rfl
  | exmemDataRead => exact exmemDataRead_queueBlind
  | exmemDataWrite data => exact queueBlind_access fun _ _ => rfl
  | commandCodeUnknown code arg => exact commandCodeUnknown_queueBlind code arg
  | narrowWrite offset enables data => exact narrowWrite_queueBlind offset enables data
  | ignoredRegisterWrite offset data => exact ignoredRegisterWrite_queueBlind offset data

/-- A command that answers a next state leaves the commands waiting as they are: a command of the part goes on
with them (`exec_goesOn`), and a term that is none is refused. -/
theorem pending_of_exec {c : Instr} {s t : State} (h : exec c s = .next t) : t.pending = s.pending := by
  cases hc : c.wellFormed with
  | true =>
    obtain ⟨u, hu, hpending⟩ := EngineStates.exec_goesOn hc s
    rw [h, Host.Outcome.next.injEq] at hu
    rwa [hu]
  | false =>
    obtain ⟨m, hm⟩ := EngineStates.exec_illFormed hc s
    rw [h] at hm
    cases hm

/-- Settles O2: no command changes the queue (`pending_of_exec`), and none reads it (`exec_queueBlind`). -/
theorem commandsNeitherReadNorChangeTheQueue : Obligations.CommandsNeitherReadNorChangeTheQueue :=
  fun c s t q h => ⟨pending_of_exec h, by
    have hfed : exec c (feed q s) = feedAnswer q (exec c s) := (exec_queueBlind c q s).symm
    rwa [h] at hfed⟩

/-- Settles O1: the step's match on the queue takes its front, and the rest becomes the queue. -/
theorem stepTakesTheFrontCommand : Obligations.StepTakesTheFrontCommand := fun _ _ _ => rfl

end Sys2Proof.Machine.CommandQueue
end
